-- ==== Sys2Proof/Word.lean ====
section
/-! DEFINITION. The plain data the model is written in: bytes, run-time stamps, the unit numbers of
00_scope.md (Numbering) and tables of a fixed number of like units. -/

namespace Sys2Proof

/-- One byte of a frame or of the flash. -/
abbrev Byte := BitVec 8

/-- A run time: the unsigned 32-bit count of milliseconds that wraps to 0 (R153). -/
abbrev Stamp := BitVec 32

/-! Units. Every unit numbered from 1 is held as an index from 0: unit `k` is index `k - 1`.
Clips are numbered from 0, so a clip's index is its number. -/

/-- Visitor inputs 1 to 16. -/
abbrev InputId := Fin 16
/-- Floor zones 1 to 8. -/
abbrev FloorZone := Fin 8
/-- Ready lines 1 to 16. -/
abbrev ReadyLine := Fin 16
/-- Lamp channels 1 to 48. -/
abbrev Channel := Fin 48
/-- Lamp groups 1 to 6; group g is channels 8g-7 to 8g. -/
abbrev LampGroup := Fin 6
/-- Axes 1 to 12. -/
abbrev Axis := Fin 12
/-- Axis groups 1 to 3; group g is axes 4g-3 to 4g. -/
abbrev AxisGroup := Fin 3
/-- Sound zones 1 to 4. -/
abbrev SoundZone := Fin 4
/-- Thermal sensors 1 to 4. -/
abbrev Sensor := Fin 4
/-- Scenes 1 to 64. -/
abbrev SceneId := Fin 64
/-- Cue lists 1 to 128. -/
abbrev ListId := Fin 128
/-- Contexts 1 to 8. -/
abbrev CtxId := Fin 8
/-- Timetable entries 1 to 32. -/
abbrev EntryId := Fin 32
/-- Clips 0 to 255. -/
abbrev ClipId := Fin 256
/-- Weekdays 1 to 7. -/
abbrev Weekday := Fin 7

/-- The number the manual gives a unit held as an index from 0. -/
abbrev unitNo (i : Fin n) : Nat := i.val + 1

/-- The number of an optional unit, where 0 means none (00_scope.md, Numbering). -/
def optUnitNo (i : Option (Fin n)) : Nat := i.elim 0 fun k => k.val + 1

/-- A fixed number of like units: a list together with its length. -/
structure Table (n : Nat) (α : Type) where
  rows : List α
  size : rows.length = n
  deriving DecidableEq, Repr

/-- The row of a unit. -/
def Table.get (t : Table n α) (i : Fin n) : α := t.rows[i.val]'(by rw [t.size]; exact i.isLt)

/-- The table with one row replaced. -/
def Table.set (t : Table n α) (i : Fin n) (a : α) : Table n α :=
  ⟨t.rows.set i.val a, by rw [List.length_set, t.size]⟩

/-- The table with one row changed by `f`. -/
def Table.modify (t : Table n α) (i : Fin n) (f : α → α) : Table n α := t.set i (f (t.get i))

/-- The table with every row changed by `f`. -/
def Table.map (t : Table n α) (f : α → β) : Table n β :=
  ⟨t.rows.map f, by rw [List.length_map, t.size]⟩

/-- The table that holds one value in every row. -/
def Table.fill (n : Nat) (a : α) : Table n α := ⟨List.replicate n a, List.length_replicate⟩

/-- The table whose row `i` is `f i`. -/
def Table.ofFn (f : Fin n → α) : Table n α := ⟨List.ofFn f, List.length_ofFn⟩

/-- The units of a table, in ascending order. -/
abbrev units (n : Nat) : List (Fin n) := List.finRange n

@[simp] theorem Table.get_set_same (t : Table n α) (i : Fin n) (a : α) : (t.set i a).get i = a := by
  simp [Table.get, Table.set]

@[simp] theorem Table.get_set_ne (t : Table n α) (i j : Fin n) (a : α) (h : i ≠ j) :
    (t.set i a).get j = t.get j := by
  have : i.val ≠ j.val := fun e => h (Fin.ext e)
  simp [Table.get, Table.set, this]

theorem Table.get_set (t : Table n α) (i j : Fin n) (a : α) :
    (t.set i a).get j = if i = j then a else t.get j := by
  split
  · next h => subst h; simp
  · next h => simp [h]

@[simp] theorem Table.get_modify_same (t : Table n α) (i : Fin n) (f : α → α) :
    (t.modify i f).get i = f (t.get i) := by simp [Table.modify]

@[simp] theorem Table.get_modify_ne (t : Table n α) (i j : Fin n) (f : α → α) (h : i ≠ j) :
    (t.modify i f).get j = t.get j := by simp [Table.modify, h]

theorem Table.get_modify (t : Table n α) (i j : Fin n) (f : α → α) :
    (t.modify i f).get j = if i = j then f (t.get j) else t.get j := by
  split
  · next h => subst h; simp
  · next h => simp [h]

@[simp] theorem Table.get_map (t : Table n α) (f : α → β) (i : Fin n) : (t.map f).get i = f (t.get i) := by
  simp [Table.get, Table.map]

@[simp] theorem Table.get_fill (a : α) (i : Fin n) : (Table.fill n a).get i = a := by
  simp [Table.get, Table.fill]

@[simp] theorem Table.get_ofFn (f : Fin n → α) (i : Fin n) : (Table.ofFn f).get i = f i := by
  simp [Table.get, Table.ofFn]

/-- Two tables with equal rows are equal. -/
@[ext] theorem Table.ext_get (t u : Table n α) (h : ∀ i, t.get i = u.get i) : t = u := by
  obtain ⟨r, hr⟩ := t
  obtain ⟨q, hq⟩ := u
  have : r = q := by
    apply List.ext_getElem (by rw [hr, hq])
    intro i h1 h2
    exact h ⟨i, by rw [← hr]; exact h1⟩
  subst this; rfl

end Sys2Proof
end

