-- ==== Sys2Proof/Records.lean ====
section
/-! DEFINITION. The definition records of the part: what a show is made of, as the definition requests
write it and the show image keeps it (chapters 1, 2, 4 to 9 and the table of section 11.1). -/

namespace Sys2Proof

/-! Codes of fields (section 12.3 and the chapters that name them). -/

/-- The two serial ports (chapter 10). -/
inductive Port where | showLink | serviceLink
  deriving DecidableEq, Repr

/-- The show link baud rate, as strapped (section 10.1). -/
inductive Baud where | b115200 | b460800
  deriving DecidableEq, Repr

/-- The role of an input (section 1.1). -/
inductive Role where | unused | button | presence
  deriving DecidableEq, Repr

/-- The active sense of an input or of an axis's switches. -/
inductive Polarity where | activeHigh | activeLow
  deriving DecidableEq, Repr

/-- Which press of a run the capture record keeps (R7). -/
inductive CaptureMode where | first | latest
  deriving DecidableEq, Repr

/-- How often a track plays its list (R71). -/
inductive TrackMode where | once | repeated | loop
  deriving DecidableEq, Repr

/-- The curve of a lamp channel (R90). -/
inductive Curve where | linear | square
  deriving DecidableEq, Repr

/-- What a lamp group does after its safe levels (section 5.6). -/
inductive EstopResponse where | holdSafe | timed
  deriving DecidableEq, Repr

/-- What an occupied guard zone does to an axis (section 6.6). -/
inductive GuardAction where | stop | creep
  deriving DecidableEq, Repr

/-- The thermal state of a sensor or group (R141). -/
inductive Thermal where | normal | hot | critical
  deriving DecidableEq, Repr

/-! Inputs and floor zones. -/

/-- An input profile (section 1.1). The fields a role does not use hold their defaults (R1). -/
structure InputProfile where
  role : Role
  polarity : Polarity
  debounce : Nat
  zone : Option FloorZone
  scene : Option SceneId
  capture : CaptureMode
  stuckLimit : Nat
  notify : Bool
  deriving DecidableEq, Repr

/-! Scenes. -/

/-- A track of a scene record: its cue list, mode and pass count (0 unless REPEAT). -/
structure TrackDef where
  list : ListId
  mode : TrackMode
  passes : Nat
  deriving DecidableEq, Repr

/-- The readiness mask: which of the five categories count (section 2.1). -/
structure Mask where
  axes : Bool
  lamps : Bool
  narration : Bool
  audience : Bool
  guarded : Bool
  deriving DecidableEq, Repr

/-- A scene record (section 2.1). The claim sets are in ascending order. Wait limit, max run time and rest
time are in seconds, the release time in milliseconds. -/
structure SceneRecord where
  enabled : Bool
  priority : Nat
  lamps : List Channel
  axes : List Axis
  zones : List SoundZone
  tracks : List TrackDef
  mask : Mask
  audience : Option FloorZone
  readyLine : Option ReadyLine
  waitLimit : Nat
  maxRun : Nat
  release : Nat
  rest : Nat
  followOn : Option SceneId
  deriving DecidableEq, Repr

/-! Cues. -/

/-- What a cue asks for, by its kind (R63). -/
inductive CueAct where
  | lamp (first last : Channel) (level fade : Nat)
  | axis (axis : Axis) (speed target : Nat)
  | narrate (zone : SoundZone) (clip : ClipId) (attenuation : Nat)
  | ambience (zone : SoundZone) (attenuation ramp : Nat)
  | mark (number : Nat)
  | request (scene : SceneId)
  deriving DecidableEq, Repr

/-- A cue record (section 4.2): its delta, its kept flags and its parameters. -/
structure Cue where
  delta : Nat
  wait : Bool
  cut : Bool
  occupiedOnly : Bool
  act : CueAct
  deriving DecidableEq, Repr

/-! Lighting. -/

/-- A lamp channel definition (section 5.2). -/
structure ChannelDef where
  base : Nat
  curve : Curve
  floor : Nat
  safe : Nat
  deriving DecidableEq, Repr

/-- A lamp group definition (section 5.2). The hold time is in seconds. -/
structure LampGroupDef where
  master : Nat
  response : EstopResponse
  hold : Nat
  sensor : Option Sensor
  deriving DecidableEq, Repr

/-! Motion. -/

/-- An axis definition (section 6.1). -/
structure AxisDef where
  enabled : Bool
  min : Nat
  max : Nat
  home : Nat
  maxSpeed : Nat
  accel : Nat
  emergency : Nat
  homingSpeed : Nat
  returnPercent : Nat
  guardZone : Option FloorZone
  guardAction : GuardAction
  creep : Nat
  sense : Polarity
  deriving DecidableEq, Repr

/-! Audio. -/

/-- A sound zone definition (section 7.3). A base attenuation of 255 is muted. -/
structure SoundZoneDef where
  floor : Option FloorZone
  bed : Option ClipId
  base : Nat
  depth : Nat
  ramp : Nat
  deriving DecidableEq, Repr

/-- An entry of the clip directory (R123): start block, length in samples and, while WRITING, the bytes
written. -/
inductive ClipEntry where
  | empty
  | writing (start length written : Nat)
  | defined (start length : Nat)
  deriving DecidableEq, Repr

/-! Supervision. -/

/-- A thermal sensor definition (section 8.1). Thresholds are counts of 0.5 °C (section 12.3). -/
structure SensorDef where
  fitted : Bool
  hot : Int
  critical : Int
  derate : Nat
  deriving DecidableEq, Repr

/-! Clock. -/

/-- The action of a timetable entry (section 9.4). -/
inductive TimetableAction where
  | openShow
  | closeShow
  | start (scene : SceneId)
  deriving DecidableEq, Repr

/-- A timetable entry that holds a definition (section 9.4). -/
structure TimetableEntry where
  days : List Weekday
  minute : Nat
  action : TimetableAction
  deriving DecidableEq, Repr

/-! The show image. -/

/-- Every working definition, in the order of the table of section 11.1. -/
structure Definitions where
  inputs : Table 16 InputProfile
  holds : Table 8 Nat
  scenes : Table 64 (Option SceneRecord)
  lists : Table 128 (List Cue)
  channels : Table 48 ChannelDef
  lampGroups : Table 6 LampGroupDef
  axes : Table 12 AxisDef
  soundZones : Table 4 SoundZoneDef
  clips : Table 256 ClipEntry
  sensors : Table 4 SensorDef
  axisBindings : Table 3 (Option Sensor)
  trim : Int
  timetable : Table 32 (Option TimetableEntry)
  deriving DecidableEq, Repr

/-- The show image region of the flash: the bytes over which the CRC is taken, the length and CRC fields
(absent when erased or unreadable), and the definitions the bytes spell. The manual gives the image's
contents and its check but not its byte layout, so the definitions stand beside the bytes; they are absent
where the bytes hold an identifier outside its range (assumption log 3). -/
structure FlashImage where
  bytes : List Byte
  lengthField : Option Nat
  crcField : Option (BitVec 16)
  definitions : Option Definitions
  deriving DecidableEq, Repr

/-- The contents of the flash as found at a power-on, where they are not the ones the part left there. -/
structure FoundFlash where
  image : FlashImage
  clips : List (Nat × Byte)
  deriving DecidableEq, Repr

end Sys2Proof
end

