-- ==== Sys2Proof/Syntax.lean ====
section
/-! DEFINITION. The commands of the part, one constructor for each row of the opcode table, with the
operands the manual's rules name. A request of a link stands for a complete frame with a good check whose
kind and body spell it; an event stands for what the world or a timer does to the part. -/

namespace Sys2Proof

/-- What every request frame has besides its fields: the port it came in on, and whether the length of its
body is one that the kind's layout can have (R163 check 2, R177). -/
structure FrameHead where
  port : Port
  lengthOk : Bool
  deriving DecidableEq, Repr

/-- The body of DEFINE INPUT as sent (section 12.5). -/
structure InputBody where
  input : Nat
  role : Nat
  polarity : Nat
  debounce : Nat
  zone : Nat
  scene : Nat
  capture : Nat
  stuckLimit : Nat
  notify : Nat
  deriving DecidableEq, Repr

/-- A track of a DEFINE SCENE body as sent. -/
structure TrackBody where
  list : Nat
  mode : Nat
  passes : Nat
  deriving DecidableEq, Repr

/-- The body of DEFINE SCENE as sent (section 12.5); the sets are bit sets. `tracks` are the tracks the
body has room for, which R32 compares with the track count. -/
structure SceneBody where
  scene : Nat
  trackCount : Nat
  enabled : Nat
  priority : Nat
  lamps : Nat
  axes : Nat
  zones : Nat
  mask : Nat
  audience : Nat
  readyLine : Nat
  waitLimit : Nat
  maxRun : Nat
  release : Nat
  rest : Nat
  followOn : Nat
  tracks : List TrackBody
  deriving DecidableEq, Repr

/-- A cue record as sent (section 12.5): delta, kind, flags and six parameter bytes. -/
structure CueBody where
  delta : BitVec 16
  kind : Byte
  flags : Byte
  p0 : Byte
  p1 : Byte
  p2 : Byte
  p3 : Byte
  p4 : Byte
  p5 : Byte
  deriving DecidableEq, Repr

/-- The fields of DEFINE CHANNEL (R79). -/
structure ChannelBody where
  channel : Nat
  base : Nat
  curve : Nat
  floor : Nat
  safe : Nat
  deriving DecidableEq, Repr

/-- The fields of DEFINE LAMP GROUP (R80). -/
structure LampGroupBody where
  group : Nat
  master : Nat
  response : Nat
  hold : Nat
  sensor : Nat
  deriving DecidableEq, Repr

/-- The body of DEFINE AXIS as sent (section 12.5). -/
structure AxisBody where
  axis : Nat
  enabled : Nat
  min : Nat
  max : Nat
  home : Nat
  maxSpeed : Nat
  accel : Nat
  emergency : Nat
  homingSpeed : Nat
  returnPercent : Nat
  guardZone : Nat
  guardAction : Nat
  creep : Nat
  sense : Nat
  deriving DecidableEq, Repr

/-- The fields of DEFINE SOUND ZONE (R129). -/
structure SoundZoneBody where
  zone : Nat
  floor : Nat
  bed : Nat
  base : Nat
  depth : Nat
  ramp : Nat
  deriving DecidableEq, Repr

/-- The fields of DEFINE SENSOR (R139); thresholds are signed counts of 0.5 °C. -/
structure SensorBody where
  sensor : Nat
  fitted : Nat
  hot : Int
  critical : Int
  derate : Int
  deriving DecidableEq, Repr

/-- The fields of DEFINE TIMETABLE ENTRY (R156); the weekdays are a bit set. -/
structure TimetableBody where
  entry : Nat
  days : Nat
  minute : Nat
  action : Nat
  scene : Nat
  deriving DecidableEq, Repr

/-- The three switch inputs of an axis (R101). -/
inductive Switch where | home | low | high
  deriving DecidableEq, Repr

/-- A group that has a driver-fault line (section 8.3). -/
inductive DriverGroup where
  | lamp (g : LampGroup)
  | axis (g : AxisGroup)
  deriving DecidableEq, Repr

/-- The blocks that give a part of a QUERY HEALTH reply from state of their own (R150). -/
inductive HealthPart where | inputs | motion | mixer
  deriving DecidableEq, Repr

/-- The commands of the part: the rows of the opcode table, in the table's order. -/
inductive Instr where
  | powerOn (strap : Baud) (found : Option FoundFlash)
  | loadEnd (readFailed : Bool)
  | imageReadTimeout
  | frameTimerExpiry (p : Port)
  | badFrame (p : Port)
  | unknownKind (p : Port) (kind : Byte)
  | transmitDone (p : Port)
  | queryStatus (h : FrameHead)
  | queryZones (h : FrameHead)
  | queryScene (h : FrameHead) (scene : Nat)
  | queryQueue (h : FrameHead) (part : Nat)
  | queryTracks (h : FrameHead) (ctx : Nat)
  | readCues (h : FrameHead) (list offset count : Nat)
  | queryLevels (h : FrameHead)
  | queryAxes (h : FrameHead)
  | queryAudio (h : FrameHead) (clip : Option ClipId)
  | queryHealth (h : FrameHead)
  | healthPartGathered (p : Port) (part : HealthPart)
  | queryClock (h : FrameHead)
  | defineInput (h : FrameHead) (b : InputBody)
  | defineZone (h : FrameHead) (zone hold : Nat)
  | defineScene (h : FrameHead) (b : SceneBody)
  | sizeCueList (h : FrameHead) (list length : Nat)
  | writeCues (h : FrameHead) (list offset count : Nat) (cues : List CueBody)
  | defineChannel (h : FrameHead) (b : ChannelBody)
  | defineLampGroup (h : FrameHead) (b : LampGroupBody)
  | defineAxis (h : FrameHead) (b : AxisBody)
  | defineSoundZone (h : FrameHead) (b : SoundZoneBody)
  | defineSensor (h : FrameHead) (b : SensorBody)
  | defineAxisGroup (h : FrameHead) (group sensor : Nat)
  | defineTimetableEntry (h : FrameHead) (b : TimetableBody)
  | beginClip (h : FrameHead) (clip : ClipId) (length : Nat)
  | writeClip (h : FrameHead) (clip : ClipId) (offset count : Nat) (data : List Byte)
  | clipWriteEnd (ok : Bool)
  | clipWriteTimeout
  | storeShow (h : FrameHead)
  | storeDone
  | storeFailed (byFlash : Bool)
  | openShow (h : FrameHead)
  | closeShow (h : FrameHead) (form : Nat)
  | resumeShow (h : FrameHead)
  | startScene (h : FrameHead) (scene : Nat)
  | stopScene (h : FrameHead) (scene form : Nat)
  | enableScene (h : FrameHead) (scene : Nat)
  | disableScene (h : FrameHead) (scene : Nat)
  | collectPresses (h : FrameHead)
  | acknowledgeFaults (h : FrameHead) (count : Nat) (latches : List (Nat × Nat))
  | ackStuckInput (p : Port)
  | ackAxisTravel (p : Port)
  | ackClipStore (p : Port)
  | setTime (h : FrameHead) (timeOfDay weekday : Nat)
  | setTrim (h : FrameHead) (trim : Int)
  | setMaster (h : FrameHead) (group level : Nat)
  | setBase (h : FrameHead) (first last level fade : Nat)
  | homeAxes (h : FrameHead) (axes : Nat)
  | restart (h : FrameHead)
  | testLevel (h : FrameHead) (first last : Nat) (level : Option Nat)
  | jogAxis (h : FrameHead) (axis speed target : Nat)
  | playClip (h : FrameHead) (zone : Nat) (clip : ClipId) (attenuation : Nat)
  | takeControl (lengthOk : Bool) (form : Nat)
  | takeGrant
  | giveBack (lengthOk : Bool)
  | serviceSilence
  | inputLineChange (i : InputId) (high : Bool)
  | debounceExpiry (i : InputId)
  | stuckExpiry (i : InputId)
  | holdExpiry (z : FloorZone)
  | zoneChangeScheduler (z : FloorZone)
  | zoneChangeMotion (z : FloorZone)
  | zoneChangeMixer (z : FloorZone)
  | entryExpiry (scene : SceneId)
  | deadlineExpiry (c : CtxId)
  | returnLimitExpiry (c : CtxId)
  | restExpiry (scene : SceneId)
  | cueIssue (c : CtxId) (track : Nat)
  | lightingFrame
  | timedHoldExpiry (g : LampGroup)
  | switchLineChange (a : Axis) (sw : Switch) (high : Bool)
  | switchFilterExpiry (a : Axis) (sw : Switch)
  | homeNotFound (a : Axis)
  | moveArrival (a : Axis)
  | stoppingAtRest (a : Axis)
  | sensorReading (n : Sensor) (reading : Int)
  | thermalChangeLighting (n : Sensor)
  | thermalChangeMotion (n : Sensor)
  | thermalChangeScheduler (n : Sensor)
  | driverFaultLineChange (g : DriverGroup) (active : Bool)
  | driverFaultFilterExpiry (g : DriverGroup)
  | estopLineChange (active : Bool)
  | estopFilterExpiry
  | estopOnScheduler
  | estopOnLighting
  | estopOnMotion
  | estopOnMixer
  | estopOnControlOwner
  | estopOffMotion
  | resumeLighting
  | resumeMixer
  | clipReadDone
  | clipReadTimeout
  | probeDue
  | probeEnd (answered : Bool)
  | clipEnd (z : SoundZone)
  | clockMillisecond
  | byteArrival (p : Port) (byte : Byte) (stopBitOk : Bool)
  | heldAtRest (a : Axis)
  deriving DecidableEq, Repr

end Sys2Proof
end

