-- ==== Sys2Proof/Decode.lean ====
section
/-! DEFINITION. The words of the opcode table. -/

namespace Sys2Proof

/-- The command a table word spells. No row of the table gives its command any bits: a command comes from outside
as a frame of a link or as an event, so no word spells one (assumption log 10). -/
def decodeTableWord (_nbits _w : Nat) : Option Instr := none

end Sys2Proof
end

