-- ==== Sys2Proof/Messages.lean ====
section
/-! DEFINITION. The vocabulary of the part's messages: the states, modes, causes and reasons that stand in
notices and replies (section 12.3), the notices (section 12.4) and what each reply gives. -/

namespace Sys2Proof

/-! States, modes and causes. -/

/-- The state of a scene (section 2.2). -/
inductive SceneState where | off | idle | queued | running | returning | resting
  deriving DecidableEq, Repr

/-- Why a scene last ended (section 2.2). -/
inductive EndCause where | normal | stopped | timeout | preempted | fault | thermal | estop | closed
  deriving DecidableEq, Repr

/-- The show mode (R53). -/
inductive Mode where | closed | opened | service | standstill
  deriving DecidableEq, Repr

/-- Why the show mode changed (R53). -/
inductive ModeCause where | openShow | closeShow | timetable | take | giveBack | silence | estop | resume
  deriving DecidableEq, Repr

/-- Where a scene request came from, with its detail (R37). -/
inductive Source where
  | visitor (i : InputId)
  | showLink
  | serviceLink
  | timetable (e : EntryId)
  | chain (scene : SceneId)
  deriving DecidableEq, Repr

/-- Why a request was dropped or an entry removed (R37). -/
inductive DropReason where | off | closed | service | estop | full | displaced | expired | disabled | stopped
  deriving DecidableEq, Repr

/-- The latch kinds (section 8.5). -/
inductive LatchKind where
  | lampDriver | axisDriver | sensor | hotSeen | criticalSeen | stuckInput | axisTravel | clipStore
  deriving DecidableEq, Repr

/-- The state of a floor zone (section 1.6). -/
inductive ZoneState where | clear | occupied | holding
  deriving DecidableEq, Repr

/-- The two kinds of start-up (section 11.3). -/
inductive StartKind where | powerOn | restart
  deriving DecidableEq, Repr

/-- The load state (R174). -/
inductive LoadState where | loading | loaded | empty
  deriving DecidableEq, Repr

/-- Why a load left the show empty (R174). -/
inductive LoadReason where | readFailed | length | crc | range | crossReference
  deriving DecidableEq, Repr

/-- The form of a TAKE CONTROL (R167). -/
inductive TakeForm where | wait | now
  deriving DecidableEq, Repr

/-- An exclusive claim: an axis or a sound zone (R41). -/
inductive Resource where
  | axis (a : Axis)
  | zone (z : SoundZone)
  deriving DecidableEq, Repr

/-- The outcome of a return journal entry (R50). -/
inductive JournalOutcome where | pending | returning | arrived | abandoned
  deriving DecidableEq, Repr

/-- An entry of a return journal (R50). -/
structure JournalEntry where
  axis : Axis
  position : Nat
  outcome : JournalOutcome
  deriving DecidableEq, Repr

/-- What a WAITING track awaits (section 4.4). -/
inductive Awaited where
  | axis (a : Axis)
  | clip (z : SoundZone) (clip : ClipId)
  deriving DecidableEq, Repr

/-- The readiness results of a scene: the five categories without the mask, and the overall result (R26). -/
structure Readiness where
  axes : Bool
  lamps : Bool
  narration : Bool
  audience : Bool
  guarded : Bool
  overall : Bool
  deriving DecidableEq, Repr

/-- The E-stop phase of a lamp group (section 5.6). -/
inductive EstopPhase where | clear | safe | base
  deriving DecidableEq, Repr

/-- The source of a channel's pre-scale level (R88). -/
inductive LevelSource where
  | safe | baseBlend | base | recovery | test | handover
  | contribution (c : CtxId)
  deriving DecidableEq, Repr

/-- The states of an axis (section 6.3). -/
inductive AxisState where | unhomed | homing | idle | moving | held | stopping | faulted
  deriving DecidableEq, Repr

/-- The move kind of an axis (section 6.3). -/
inductive MoveKind where
  | cue (c : CtxId)
  | ret (c : CtxId)
  | jog
  deriving DecidableEq, Repr

/-- The guard effect on an axis (section 6.3). -/
inductive GuardEffect where | none | holding | creeping
  deriving DecidableEq, Repr

/-- Why a cue was skipped (R108). -/
inductive SkipReason where | unhomed | homing | faulted | critical | estop
  deriving DecidableEq, Repr

/-- The cause an AXIS notice of a fault carries (R113, R114). -/
inductive AxisFault where | limit | homeNotFound | driver
  deriving DecidableEq, Repr

/-- The cause of a THERMAL notice (R143). -/
inductive ThermalCause where | reading | fault | define
  deriving DecidableEq, Repr

/-- A time of day with its weekday (section 9.3). -/
structure TimeOfDay where
  seconds : Nat
  weekday : Weekday
  deriving DecidableEq, Repr

/-- A capture record (section 1.1). -/
structure Capture where
  pending : Bool
  stamp : Option Stamp
  time : Option TimeOfDay
  deriving DecidableEq, Repr

/-! Notices. -/

/-- The own fields of a notice (section 12.4). -/
inductive NoticeBody where
  | scene (scene : SceneId) (left entered : SceneState) (ctx : Option CtxId) (cause : Option EndCause) (runs : Nat)
  | dropped (scene : SceneId) (source : Source) (reason : DropReason)
  | droppedClip (zone : SoundZone) (clip : ClipId) (scene : Option SceneId) (track : Option Nat)
  | press (input : InputId) (count : Nat) (capture : Capture) (scene : Option SceneId)
  | fault (kind : LatchKind) (unit : Nat) (already : Bool)
  | thermal (sensor : Sensor) (old new : Thermal) (reading : Option Int) (cause : ThermalCause)
  | mode (old new ret : Mode) (cause : ModeCause)
  | mark (scene : SceneId) (ctx : CtxId) (track pass offset number : Nat)
  | homed (axis : Axis) (offset : Nat)
  | clamped (axis : Axis) (scene : Option SceneId) (asked used : Nat)
  | skipped (axis : Axis) (scene : SceneId) (target : Nat) (reason : SkipReason)
  | faulted (axis : Axis) (scene : Option SceneId) (cause : AxisFault)
  | abandoned (axis : Axis) (scene : SceneId) (position : Nat)
  | clock (applied : Bool) (entry : EntryId) (action : TimetableAction) (day : Weekday) (minute : Nat)
  | startup (loaded : Bool) (kind : StartKind) (reason : Option LoadReason) (length : Nat)
  deriving DecidableEq, Repr

/-- A notice as placed: its run-time stamp and its own fields (R165). -/
structure Notice where
  stamp : Stamp
  body : NoticeBody
  deriving DecidableEq, Repr

/-! Replies. -/

/-- The reply codes (section 10.2). -/
inductive ReplyCode where
  | done | adjusted | absorbed | badFrame | unknownKind | badBody | wrongMode | serviceHolds | notOwner | busy
  | queueFull | notDefined | inUse | noRoom | estopActive | storeFault
  deriving DecidableEq, Repr

/-- What QUERY STATUS gives (R169). -/
structure StatusReport where
  load : LoadState
  mode : Mode
  returnMode : Mode
  serviceReturn : Mode
  owner : Port
  take : Option TakeForm
  silenceLeft : Nat
  estopActive : Bool
  storing : Bool
  runTime : Stamp
  time : Option TimeOfDay
  queueEntries : Nat
  occupiedContexts : Nat
  outboxWaiting : Nat
  missed : Nat
  baud : Baud
  deriving DecidableEq, Repr

/-- What QUERY ZONES gives for a floor zone (R16). -/
structure ZoneReport where
  state : ZoneState
  hold : Nat
  left : Nat
  members : Nat
  deriving DecidableEq, Repr

/-- What QUERY ZONES gives for an input (R16). -/
structure InputReport where
  role : Role
  high : Bool
  active : Bool
  held : Nat
  stuckRun : Bool
  stuckLatch : Bool
  deriving DecidableEq, Repr

/-- What QUERY SCENE gives for a defined scene (R36). -/
structure SceneReport where
  record : SceneRecord
  state : SceneState
  context : Option CtxId
  started : Option Stamp
  restUntil : Option Stamp
  endCause : Option EndCause
  restLeft : Nat
  runs : Nat
  ready : Readiness
  lines : List Bool
  deriving DecidableEq, Repr

/-- What QUERY QUEUE gives for an entry (R59). -/
structure EntryReport where
  scene : SceneId
  source : Source
  priority : Nat
  arrival : Stamp
  preempting : Bool
  expiryLeft : Option Nat
  promised : List Resource
  deriving DecidableEq, Repr

/-- What QUERY QUEUE gives for a claims record (R59). -/
structure ClaimReport where
  resource : Resource
  holder : Option CtxId
  scene : Option SceneId
  promised : Option SceneId
  deriving DecidableEq, Repr

/-- What QUERY QUEUE gives for an occupied context (R59). -/
structure ContextReport where
  scene : SceneId
  state : SceneState
  left : Nat
  journal : List JournalEntry
  deriving DecidableEq, Repr

/-- The state of a track by name (section 4.4). -/
inductive TrackState where | idle | playing | waiting | done
  deriving DecidableEq, Repr

/-- What QUERY TRACKS gives for a track (R76). -/
structure TrackReport where
  defn : TrackDef
  state : TrackState
  pass : Nat
  next : Option Nat
  dueLeft : Option Nat
  awaited : Option Awaited
  deriving DecidableEq, Repr

/-- A channel's part of a lighting frame (R77). -/
structure ChannelFrame where
  level : Nat
  output : Nat
  source : LevelSource
  deriving DecidableEq, Repr

/-- A lamp group's part of a lighting frame (R98). -/
structure GroupFrame where
  phase : EstopPhase
  master : Nat
  thermal : Thermal
  derate : Nat
  lineActive : Bool
  deriving DecidableEq, Repr

/-- The snapshot of a lighting frame (R77, R98). -/
structure Snapshot where
  time : Stamp
  channels : Table 48 ChannelFrame
  groups : Table 6 GroupFrame
  deriving DecidableEq, Repr

/-- An exact real number that square roots give: a rational, or `a + b·√p` over the foremost of the radicands it
stands under, where `a` and `b` stand under the others. The peak speed of a move that does not reach its speed limit
is such a root (R109). -/
inductive Surd where
  | rat (q : Rat)
  | pair (a b : Surd)
  deriving DecidableEq, Repr

/-- What QUERY AXES gives for an axis (R122). The speed is exact, in steps per second, under the radicands `roots`
(assumption log 31). -/
structure AxisReport where
  enabled : Bool
  state : AxisState
  position : Option Nat
  target : Option Nat
  kind : Option MoveKind
  holder : Option CtxId
  speed : Surd
  roots : List Surd
  upward : Bool
  speedLimit : Nat
  guardEffect : GuardEffect
  home : Bool
  low : Bool
  high : Bool
  travelCause : Bool
  driverCause : Bool
  travelLatch : Bool
  steps : Option Nat
  paused : Bool
  deriving DecidableEq, Repr

/-- What QUERY AXES gives for an axis group (R122). -/
structure AxisGroupReport where
  thermal : Thermal
  derate : Nat
  lineActive : Bool
  latch : Bool
  deriving DecidableEq, Repr

/-- The state of a buffer slot by name (R126). -/
inductive SlotState where | empty | reading | filled
  deriving DecidableEq, Repr

/-- What QUERY AUDIO gives for a voice or a listed clip (R138). -/
structure VoiceReport where
  clip : ClipId
  position : Nat
  attenuation : Nat
  scene : Option SceneId
  track : Option Nat
  deriving DecidableEq, Repr

/-- What QUERY AUDIO gives for a sound zone (R138). -/
structure SoundZoneReport where
  defn : SoundZoneDef
  voice : Option VoiceReport
  waiting : List VoiceReport
  bedPlaying : Bool
  bedPosition : Nat
  bedAttenuation : Nat
  bedTarget : Nat
  duck : Nat
  duckUp : Bool
  muted : Bool
  voiceSlots : List SlotState
  bedSlots : List SlotState
  deriving DecidableEq, Repr

/-- What QUERY AUDIO gives (R138). -/
structure AudioReport where
  zones : List SoundZoneReport
  latch : Bool
  answering : Bool
  freeBlocks : Nat
  entry : Option ClipEntry
  deriving DecidableEq, Repr

/-- The last reading of a sensor (section 8.1). -/
inductive Reading where
  | absent
  | invalid
  | valid (halves : Int)
  deriving DecidableEq, Repr

/-- What QUERY HEALTH gives for a sensor (R150). -/
structure SensorReport where
  defn : SensorDef
  reading : Reading
  thermal : Thermal
  faultLatch : Bool
  hotSeen : Bool
  criticalSeen : Bool
  deriving DecidableEq, Repr

/-- What QUERY HEALTH gives for a group (R150). -/
structure GroupHealth where
  sensor : Option Sensor
  thermal : Thermal
  derate : Nat
  lineActive : Bool
  latch : Bool
  deriving DecidableEq, Repr

/-- The Supervisor's own part of QUERY HEALTH (R150). -/
structure SupervisorHealth where
  sensors : List SensorReport
  lampGroups : List GroupHealth
  axisGroups : List GroupHealth
  estopActive : Bool
  deriving DecidableEq, Repr

/-- What QUERY HEALTH gives (R150). -/
structure HealthReport where
  own : SupervisorHealth
  stuck : List Bool
  travel : List Bool
  clipStore : Bool
  deriving DecidableEq, Repr

/-- What QUERY CLOCK gives (R159). -/
structure ClockReport where
  runTime : Stamp
  time : Option TimeOfDay
  phase : Nat
  trimInUse : Int
  trimPending : Int
  timetable : List (Option TimetableEntry)
  deriving DecidableEq, Repr

/-- What COLLECT PRESSES gives for an input (R11). -/
structure PressRecord where
  count : Nat
  capture : Capture
  deriving DecidableEq, Repr

/-- The outcome of a START SCENE that was placed in the queue (R57). -/
inductive StartOutcome where
  | started (c : CtxId)
  | queued (preempting : Bool) (position : Nat)
  | expired
  deriving DecidableEq, Repr

/-- The outcome of an acknowledged latch (R147). -/
inductive AckOutcome where | cleared | stillPresent | wasClear
  deriving DecidableEq, Repr

/-- An expanded entry of ACKNOWLEDGE FAULTS, with its outcome once answered (R147). -/
structure AckEntry where
  kind : LatchKind
  unit : Nat
  outcome : Option AckOutcome
  deriving DecidableEq, Repr

/-- The outcome of HOME AXES for an axis (R104). -/
inductive HomeOutcome where | started | inUse | notEnabled | faulted | locked | busy
  deriving DecidableEq, Repr

/-- The outcome of JOG AXIS (R121). -/
inductive JogOutcome where
  | started
  | skipped (reason : SkipReason)
  deriving DecidableEq, Repr

/-- What a reply gives after its code. -/
inductive ReplyBody where
  | empty
  | kindByte (kind : Byte)
  | status (r : StatusReport)
  | zones (zones : List ZoneReport) (inputs : List InputReport)
  | undefinedScene (runs : Nat) (started : Option Stamp) (cause : Option EndCause)
  | scene (r : SceneReport)
  | queueEntries (mode : Mode) (suspended : Bool) (entries : List EntryReport)
  | queueClaims (claims : List ClaimReport) (contexts : List (Option ContextReport))
  | freeContext
  | tracks (scene : SceneId) (state : SceneState) (tracks : List TrackReport)
  | cuesFree (free : Nat)
  | cues (length free : Nat) (cues : List Cue)
  | levels (s : Snapshot)
  | axes (axes : List AxisReport) (groups : List AxisGroupReport)
  | audio (r : AudioReport)
  | health (r : HealthReport)
  | clock (r : ClockReport)
  | badTrack (track : Nat) (offset : Option Nat)
  | badUse (scene : SceneId) (track : Nat) (offset : Option Nat)
  | badRecord (offset : Nat)
  | listSize (length free : Nat)
  | cuesWritten (list : ListId) (offset count : Nat)
  | clipPlace (start free : Nat)
  | stored (length : Nat) (crc : BitVec 16)
  | start (o : StartOutcome)
  | presses (records : List PressRecord)
  | acks (entries : List AckEntry)
  | timeSet (time : TimeOfDay) (entry : Option EntryId)
  | trims (pending inUse : Int)
  | homing (outcomes : List (Axis × HomeOutcome))
  | jog (o : JogOutcome)
  | granted (serviceReturn : Mode)
  | restartTaken
  deriving DecidableEq, Repr

/-- A reply as placed: its kind byte, code and body (section 12.1). -/
structure Reply where
  kind : Byte
  code : ReplyCode
  body : ReplyBody
  deriving DecidableEq, Repr

end Sys2Proof
end

