-- ==== Sys2Proof/Config.lean ====
section
/-! DEFINITION. What the manual fixes only outside itself: byte layouts it does not give, the bytes a failed write
leaves, and where a chain with no end is broken off. Each value is a constant with no body, so no proof can rest on
it. -/

namespace Sys2Proof.Config

/-- The first byte of the show image that holds these definitions (assumption log 3). -/
opaque imageFirst : Definitions → Byte

/-- The bytes of that image after the first (assumption log 3). -/
opaque imageRest : Definitions → List Byte

/-- The bytes of the show image that hold these definitions, at least one: an image that STORE SHOW has written loads
(R171, R173), and a length of 0 does not (R174). Section 11.1 gives the parts of the image and its check, and no
byte layout (assumption log 3). -/
def imageBytes (d : Definitions) : List Byte := imageFirst d :: imageRest d

/-- How many steps beyond a fixed number the chain of one event is followed where it has no end: R42 says that a
scan comes to an end, and R47 lets a scene start again in the event of its own end (assumption log 7). -/
opaque chainSteps : Nat

/-- What a failed clip-region write leaves at its addresses: R125 says only that the bytes written are
unchanged in number and that the same write may be sent again. The argument counts such bytes, so that
each is a fresh free value (assumption log 4). -/
opaque failedWriteByte : Nat → Byte

/-- The fields of a request body whose byte layout chapter 12 does not give: whether the body's length is
right for the kind, and its fields as numbers in the order its rule names them (assumption log 5). -/
opaque requestFields : (kind : Nat) → List Byte → Bool × List Int

/-- The number of bytes of the reply fields, after the reply code, of a reply whose byte layout chapter 12 does not
give. Every reply fits one frame (R178), which leaves at most 248 (assumption log 5). -/
opaque replyLength : ReplyBody → Fin 249

/-- The bytes of these reply fields, in order (assumption log 5). -/
opaque replyByte : ReplyBody → Nat → Byte

/-- The number of bytes of the list's length and the records free, which a READ CUES reply gives before its records
(R66). With 24 records of 10 bytes they are at most 8, since every reply fits one frame (assumption log 5). -/
opaque cuesHeadLength : Fin 9

end Sys2Proof.Config
end

