-- ==== Sys2Proof/Machine/Defaults.lean ====
section
/-! DEFINITION. The empty show: the default each chapter gives for every working definition (R175). -/

namespace Sys2Proof.Machine

/-- The profile of every input in an empty show (R1). -/
def defaultInput : InputProfile :=
  { role := .unused, polarity := .activeHigh, debounce := 20, zone := none, scene := none,
    capture := .first, stuckLimit := 60, notify := false }

/-- The default channel definition (section 5.2). -/
def defaultChannel : ChannelDef := { base := 0, curve := .linear, floor := 0, safe := 1000 }

/-- The default lamp-group definition (section 5.2). -/
def defaultLampGroup : LampGroupDef := { master := 1000, response := .holdSafe, hold := 60, sensor := none }

/-- The default axis definition (section 6.1). -/
def defaultAxis : AxisDef :=
  { enabled := false, min := 0, max := 60000, home := 0, maxSpeed := 1000, accel := 2000, emergency := 10000,
    homingSpeed := 200, returnPercent := 50, guardZone := none, guardAction := .stop, creep := 100,
    sense := .activeLow }

/-- The default sound-zone definition (section 7.3). -/
def defaultSoundZone : SoundZoneDef := { floor := none, bed := none, base := 20, depth := 12, ramp := 500 }

/-- The default sensor definition (section 8.1): 60.0 and 75.0 °C in counts of 0.5 °C. -/
def defaultSensor : SensorDef := { fitted := false, hot := 120, critical := 150, derate := 75 }

/-- The working definitions of an empty show (R175). -/
def emptyShow : Definitions :=
  { inputs := .fill 16 defaultInput, holds := .fill 8 0, scenes := .fill 64 none, lists := .fill 128 [],
    channels := .fill 48 defaultChannel, lampGroups := .fill 6 defaultLampGroup, axes := .fill 12 defaultAxis,
    soundZones := .fill 4 defaultSoundZone, clips := .fill 256 .empty, sensors := .fill 4 defaultSensor,
    axisBindings := .fill 3 none, trim := 0, timetable := .fill 32 none }

end Sys2Proof.Machine
end

