-- ==== Sys2Proof/Machine/Blocks.lean ====
section
/-! DEFINITION. The state of each block of the part (00_scope.md, Functional Blocks), and the values each
has right after power-on. -/

namespace Sys2Proof.Machine

/-! Lines read through a filter. -/

/-- A field line and its filter (R101, R145, R146): the raw line, the filtered state, the running filter
timer and whether the first sample after start-up has been accepted. For an axis switch the raw line is its
level, HIGH as `true`; for a driver-fault or the emergency-stop line it is whether the line is active. -/
structure Filter where
  line : Bool
  active : Bool
  timer : Option Stamp
  seeded : Bool
  deriving DecidableEq, Repr

/-- A filter at power-on over a line that stands at `line`. -/
def Filter.start (line : Bool) : Filter := { line := line, active := false, timer := none, seeded := false }

/-! Show Clock (chapter 9). -/

/-- The Show Clock. `time` is absent while the time-valid flag is clear. `trimPending` is also the trim of the
working definitions (R152). `periods` counts the reference periods of the milliseconds ended (R151). -/
structure Clock where
  phase : Nat
  trimInUse : Int
  trimPending : Int
  runTime : Stamp
  time : Option TimeOfDay
  firing : Bool
  timetable : Table 32 (Option TimetableEntry)
  periods : Nat
  deriving DecidableEq, Repr

/-- The Clock at power-on (R153, R154). R156 gives the timetable only once loading has ended; that it is empty until
then is the model's choice (assumption log 36). -/
def Clock.start : Clock :=
  { phase := 0, trimInUse := 0, trimPending := 0, runTime := 0, time := none, firing := false,
    timetable := .fill 32 none, periods := 0 }

/-! The two link ports and the Control Owner (chapter 10). -/

/-- A port's receiver (R160): the bytes taken since the sync byte and the expiry of the frame timer. -/
inductive Receiver where
  | hunting
  | collecting (bytes : List Byte) (expiry : Stamp)
  deriving DecidableEq, Repr

/-- A port's transmitter (R164): IDLE, or SENDING a reply, or a notice with the missed count it carries. -/
inductive Transmitter where
  | idle
  | reply (r : Reply)
  | notice (n : Notice) (missed : Nat)
  deriving DecidableEq, Repr

/-- A request that is answered later than it is taken (R161), with what has been gathered for its reply. -/
inductive Pending where
  | takeControl
  | acknowledge (entries : List AckEntry)
  | writeClip
  | storeShow
  | health (own : SupervisorHealth) (stuck travel : Option (List Bool)) (clipStore : Option Bool)
  deriving DecidableEq, Repr

/-- One port: receiver, pending request, reply slot and transmitter. -/
structure PortState where
  receiver : Receiver
  pending : Option Pending
  replies : List Reply
  transmitter : Transmitter
  deriving DecidableEq, Repr

/-- A port after start-up (R160, R162, R164). -/
def PortState.start : PortState := { receiver := .hunting, pending := none, replies := [], transmitter := .idle }

/-- The two ports, the notice outbox with its missed count, the accepted RESTART whose reply is still to be
sent, and the strapped baud rate. -/
structure Link where
  showPort : PortState
  servicePort : PortState
  outbox : List Notice
  missed : Nat
  restarting : Option Port
  baud : Baud
  deriving DecidableEq, Repr

/-- The links after start-up (R160 to R165). -/
def Link.start (baud : Baud) : Link :=
  { showPort := .start, servicePort := .start, outbox := [], missed := 0, restarting := none, baud := baud }

/-- The Control Owner (section 10.5): the owner, the pending take with its form, the silence timer. -/
structure Owner where
  owner : Port
  take : Option TakeForm
  silence : Option Stamp
  deriving DecidableEq, Repr

/-- The Control Owner after start-up. -/
def Owner.start : Owner := { owner := .showLink, take := none, silence := none }

/-! Input Conditioner (chapter 1). -/

/-- A visitor input (section 1.1). `high` is the raw level, `active` the filtered level; `seeded` is set once
the first debounced sample after start-up has been taken (R4). -/
structure InputLine where
  profile : InputProfile
  high : Bool
  active : Bool
  debounce : Option Stamp
  seeded : Bool
  since : Option Stamp
  held : Nat
  stuckRun : Bool
  stuckLatch : Bool
  count : Nat
  capture : Capture
  deriving DecidableEq, Repr

/-- A capture record with nothing pending and both stamps absent. -/
def Capture.clear : Capture := { pending := false, stamp := none, time := none }

/-- An input at start-up (R4) whose line stands at `high`. -/
def InputLine.start (p : InputProfile) (high : Bool) : InputLine :=
  { profile := p, high := high, active := false, debounce := none, seeded := false, since := none, held := 0,
    stuckRun := false, stuckLatch := false, count := 0, capture := Capture.clear }

/-- A floor zone (section 1.6): its hold time, its state and, while HOLDING, the expiry of its hold. -/
structure FloorZoneState where
  hold : Nat
  state : ZoneState
  expiry : Option Stamp
  deriving DecidableEq, Repr

/-- The Input Conditioner. -/
structure Inputs where
  lines : Table 16 InputLine
  zones : Table 8 FloorZoneState
  deriving DecidableEq, Repr

/-! Scene Scheduler and Track Player (chapters 2 to 4). -/

/-- A scene: its record and its runtime (section 2.2). -/
structure Scene where
  record : Option SceneRecord
  state : SceneState
  context : Option CtxId
  started : Option Stamp
  restUntil : Option Stamp
  endCause : Option EndCause
  runs : Nat
  ready : Readiness
  deriving DecidableEq, Repr

/-- The readiness of a scene before its first evaluation, and of one that is OFF (R17, R25). -/
def Readiness.none : Readiness :=
  { axes := false, lamps := false, narration := false, audience := false, guarded := false, overall := false }

/-- A scene at start-up that holds this record (R17). -/
def Scene.start (r : Option SceneRecord) : Scene :=
  { record := r, state := if (r.map (·.enabled)) = some true then .idle else .off, context := Option.none,
    started := Option.none, restUntil := Option.none, endCause := Option.none, runs := 0, ready := Readiness.none }

/-- An entry of the request queue (R38). The resources promised to it are the claims records that name its
scene. -/
structure Entry where
  scene : SceneId
  source : Source
  priority : Nat
  arrival : Stamp
  expiry : Stamp
  preempting : Bool
  deriving DecidableEq, Repr

/-- A record of the claims table (R41): the holding context and the scene of the entry it is promised to. -/
structure Claim where
  holder : Option CtxId
  promise : Option SceneId
  deriving DecidableEq, Repr

/-- Where a track stands (section 4.4): PLAYING with the offset of the next record to issue, or WAITING with the
offset of the record it has issued and whose completion it awaits. -/
inductive TrackPhase where
  | idle
  | playing (next : Nat) (anchor passAnchor due : Stamp)
  | waiting (issued : Nat) (anchor passAnchor : Stamp) (on : Awaited)
  | done
  deriving DecidableEq, Repr

/-- A track of an occupied context (section 4.4). -/
structure Track where
  defn : TrackDef
  phase : TrackPhase
  pass : Nat
  deriving DecidableEq, Repr

/-- An occupied context (R41). The deadline is present while RUNNING, the return limit while RETURNING.
`serial` tells one occupation of the context from the next (assumption log 6). -/
structure Context where
  scene : SceneId
  tracks : List Track
  journal : List JournalEntry
  deadline : Option Stamp
  returnLimit : Option Stamp
  serial : Nat
  deriving DecidableEq, Repr

/-- A track of one occupation of a context, as it is named to a block that will report a completion to it (R70):
the context, the track counted from 0, and the serial of the occupation. A track stopped by an abort is thereby told
from the track of the same number of the next scene in the context (R75). -/
structure TrackRef where
  ctx : CtxId
  track : Nat
  serial : Nat
  deriving DecidableEq, Repr

/-- The conditions of readiness as last delivered to the Scheduler (R26): occupied floor zones, driver-fault
latches, CRITICAL groups and the clip store fault latch. -/
structure Conditions where
  occupied : Table 8 Bool
  lampLatch : Table 6 Bool
  axisLatch : Table 3 Bool
  lampCritical : Table 6 Bool
  axisCritical : Table 3 Bool
  clipFault : Bool
  deriving DecidableEq, Repr

/-- The Scene Scheduler. `suspended` is dispatch suspended by a pending take (R56); `starts` counts the
starts of scenes, for the serials of contexts. -/
structure Scheduler where
  scenes : Table 64 Scene
  queue : List Entry
  axisClaims : Table 12 Claim
  zoneClaims : Table 4 Claim
  contexts : Table 8 (Option Context)
  mode : Mode
  returnMode : Mode
  serviceReturn : Mode
  suspended : Bool
  seen : Conditions
  starts : Nat
  deriving DecidableEq, Repr

/-- The Scheduler at start-up with these scene records (R17, R38, R41, R53). -/
def Scheduler.start (records : Table 64 (Option SceneRecord)) : Scheduler :=
  { scenes := records.map Scene.start, queue := [], axisClaims := .fill 12 ⟨none, none⟩,
    zoneClaims := .fill 4 ⟨none, none⟩, contexts := .fill 8 none, mode := .closed, returnMode := .closed,
    serviceReturn := .closed, suspended := false,
    seen := { occupied := .fill 8 false, lampLatch := .fill 6 false, axisLatch := .fill 3 false,
              lampCritical := .fill 6 false, axisCritical := .fill 3 false, clipFault := false },
    starts := 0 }

/-! Lighting Engine (chapter 5). -/

/-- A fade record (R78). -/
structure Fade where
  start : Nat
  target : Nat
  t0 : Stamp
  duration : Nat
  deriving DecidableEq, Repr

/-- A fade record idle at a level. -/
def Fade.idle (level : Nat) : Fade := { start := level, target := level, t0 := 0, duration := 0 }

/-- A contribution of a context on a channel (R83). -/
structure Contribution where
  ctx : CtxId
  priority : Nat
  fade : Fade
  deriving DecidableEq, Repr

/-- A handover toward the channel's live source (R87). -/
structure Handover where
  start : Nat
  t0 : Stamp
  duration : Nat
  deriving DecidableEq, Repr

/-- A level blend of section 5.6, toward the live base (`toBase`) or the live normal level. -/
structure LevelBlend where
  start : Nat
  t0 : Stamp
  toBase : Bool
  deriving DecidableEq, Repr

/-- A master fade of section 5.6. -/
structure MasterFade where
  start : Nat
  t0 : Stamp
  deriving DecidableEq, Repr

/-- A lamp channel (section 5.2). The stack has its top first. -/
structure ChannelState where
  defn : ChannelDef
  base : Fade
  stack : List Contribution
  handover : Option Handover
  test : Option Nat
  levelBlend : Option LevelBlend
  masterFade : Option MasterFade
  deriving DecidableEq, Repr

/-- A channel at start-up with this definition (R99). -/
def ChannelState.start (d : ChannelDef) : ChannelState :=
  { defn := d, base := .idle d.base, stack := [], handover := none, test := none, levelBlend := none,
    masterFade := none }

/-- A lamp group (section 5.2), with the thermal state, derate and line as last delivered. -/
structure LampGroupState where
  defn : LampGroupDef
  thermal : Thermal
  derate : Nat
  lineActive : Bool
  phase : EstopPhase
  holdExpiry : Option Stamp
  deriving DecidableEq, Repr

/-- A lamp group at start-up with this definition (R99). -/
def LampGroupState.start (d : LampGroupDef) : LampGroupState :=
  { defn := d, thermal := .normal, derate := 100, lineActive := false, phase := .clear, holdExpiry := none }

/-- The Lighting Engine: channels, groups, the last frame's snapshot, whose output values the 48 outputs
keep (R77), and the run time of the next regular frame. -/
structure Lighting where
  channels : Table 48 ChannelState
  groups : Table 6 LampGroupState
  snapshot : Snapshot
  nextFrame : Option Stamp
  deriving DecidableEq, Repr

/-- The snapshot before the first frame (R77): t, the levels and the outputs are 0. The rule gives no source and no
group values for it; the model's choice is source BASE, phase CLEAR, master 1000, NORMAL with derate 100 and the line
inactive (assumption log 32). -/
def Snapshot.dark : Snapshot :=
  { time := 0, channels := .fill 48 { level := 0, output := 0, source := .base },
    groups := .fill 6 { phase := .clear, master := 1000, thermal := .normal, derate := 100, lineActive := false } }

/-- The Lighting Engine at start-up with these definitions (R99). -/
def Lighting.start (channels : Table 48 ChannelDef) (groups : Table 6 LampGroupDef) : Lighting :=
  { channels := channels.map ChannelState.start, groups := groups.map LampGroupState.start,
    snapshot := Snapshot.dark, nextFrame := none }

/-! Motion Controller (chapter 6). -/

/-- A point of an axis's motion: exact place in steps, exact speed in steps per second, and direction. The place
and the speed stand under the radicands `roots`, of which there are none while the motion is rational. -/
structure Kin where
  place : Surd
  speed : Surd
  upward : Bool
  roots : List Surd
  deriving DecidableEq, Repr

/-- What a moving axis is doing (R105, R109, R110): decelerating to rest at its stopping point; moving to
a target under a speed limit, by way of its stopping point where it must; running toward the home switch;
or decelerating to rest and then running again. Rates are in steps per second squared. -/
inductive Plan where
  | stop (decel : Nat)
  | toward (target limit accel : Nat)
  | run (limit accel : Nat)
  | stopThenRun (limit accel : Nat)
  deriving DecidableEq, Repr

/-- A motion: the run time it is counted from, the point it starts from and its plan. -/
structure Travel where
  t0 : Stamp
  start : Kin
  plan : Plan
  deriving DecidableEq, Repr

/-- An axis (section 6.3). `position` is the last whole step known at rest or at the start of the present
motion, `travel` the present motion, absent at rest; `steps` counts a homing run's steps likewise.
`stoppedHoming` marks an axis STOPPING after its homing run was stopped. -/
structure AxisRec where
  defn : AxisDef
  state : AxisState
  position : Option Nat
  travel : Option Travel
  target : Option Nat
  kind : Option MoveKind
  cruise : Nat
  guardEffect : GuardEffect
  waiting : List TrackRef
  travelCause : Bool
  driverCause : Bool
  travelLatch : Bool
  steps : Nat
  paused : Bool
  stoppedHoming : Bool
  home : Filter
  low : Filter
  high : Filter
  deriving DecidableEq, Repr

/-- An axis at start-up (R102) whose switch lines stand as given. -/
def AxisRec.start (d : AxisDef) (home low high : Bool) : AxisRec :=
  { defn := d, state := .unhomed, position := none, travel := none, target := none, kind := none, cruise := 0,
    guardEffect := .none, waiting := [], travelCause := false, driverCause := false, travelLatch := false,
    steps := 0, paused := false, stoppedHoming := false, home := .start home, low := .start low,
    high := .start high }

/-- An axis group as last delivered to the Motion Controller (section 6.3). -/
structure AxisGroupState where
  thermal : Thermal
  derate : Nat
  lineActive : Bool
  latch : Bool
  deriving DecidableEq, Repr

/-- The Motion Controller: axes, groups, floor zones as last delivered, and the emergency-stop flag. -/
structure MotionState where
  axes : Table 12 AxisRec
  groups : Table 3 AxisGroupState
  occupied : Table 8 Bool
  estop : Bool
  deriving DecidableEq, Repr

/-- The groups, floor zones and flag of the Motion Controller at start-up (R102). -/
def MotionState.start (axes : Table 12 AxisRec) : MotionState :=
  { axes := axes,
    groups := .fill 3 { thermal := .normal, derate := 100, lineActive := false, latch := false },
    occupied := .fill 8 false, estop := false }

/-! Narration Mixer and Clip Reader (chapter 7). -/

/-- The contents of a buffer slot (R126). -/
inductive SlotContent where
  | empty
  | reading
  | filled (samples : List Int)
  deriving DecidableEq, Repr

/-- A buffer slot: the clip's block assigned to it, absent past the end of a voice's clip, and its contents. -/
structure Slot where
  block : Option Nat
  content : SlotContent
  deriving DecidableEq, Repr

/-- A voice buffer in use (R126): the clip's extent, whether it loops, the playback position in samples and
the four slots, the one at the playback position first. -/
structure Buffer where
  startBlock : Nat
  length : Nat
  loops : Bool
  position : Nat
  slots : List Slot
  deriving DecidableEq, Repr

/-- A clip in a zone's waiting list (section 7.3): the context whose cue gave it, absent for PLAY CLIP, and the
waiting track, absent where the cue's WAIT flag was clear (R72, R130). -/
structure ListedClip where
  clip : ClipId
  attenuation : Nat
  ctx : Option CtxId
  track : Option TrackRef
  deriving DecidableEq, Repr

/-- A PLAYING voice (section 7.3): its clip as listed, its start and its buffer. -/
structure Voice where
  item : ListedClip
  started : Stamp
  buffer : Buffer
  deriving DecidableEq, Repr

/-- A bed's attenuation ramp (R133); 255 is muted. -/
structure Ramp where
  start : Nat
  target : Nat
  t0 : Stamp
  duration : Nat
  deriving DecidableEq, Repr

/-- A zone's duck (R132). -/
structure Duck where
  start : Nat
  up : Bool
  t0 : Stamp
  deriving DecidableEq, Repr

/-- A sound zone (section 7.3). `bed` is the bed's buffer while it plays; `output` holds the 24 samples the
audio output gave in the last millisecond (R135). -/
structure SoundZoneState where
  defn : SoundZoneDef
  voice : Option Voice
  waiting : List ListedClip
  bed : Option Buffer
  ramp : Ramp
  duck : Duck
  muted : Bool
  output : List Int
  deriving DecidableEq, Repr

/-- A ramp idle at an attenuation. -/
def Ramp.idle (a : Nat) : Ramp := { start := a, target := a, t0 := 0, duration := 0 }

/-- The 24 samples of a silent millisecond. -/
def silentMillisecond : List Int := List.replicate 24 0

/-- A sound zone at start-up with this definition (R129, R132). -/
def SoundZoneState.start (d : SoundZoneDef) : SoundZoneState :=
  { defn := d, voice := none, waiting := [], bed := none, ramp := .idle d.base,
    duck := { start := 0, up := false, t0 := 0 }, muted := false, output := silentMillisecond }

/-- What a Clip Reader read is for (R127, R128): a slot of a buffer, counted from the playback position and
absent once the slot has been freed, or a probe. -/
inductive ReadTarget where
  | slot (buffer : Fin 8) (slot : Option Nat)
  | probe
  deriving DecidableEq, Repr

/-- A read in flight: its issue, its target and the block of the clip region it asks for. -/
structure FlashRead where
  issued : Stamp
  target : ReadTarget
  block : Nat
  deriving DecidableEq, Repr

/-- The Narration Mixer with its Clip Reader: directory, zones, floor zones as last delivered, the clip store
fault latch, whether the flash was last found answering, the next probe and an owed one, the read in flight
and the buffer last served. -/
structure Mixer where
  clips : Table 256 ClipEntry
  zones : Table 4 SoundZoneState
  occupied : Table 8 Bool
  latch : Bool
  answering : Bool
  probeAt : Option Stamp
  probeOwed : Bool
  read : Option FlashRead
  lastServed : Fin 8
  deriving DecidableEq, Repr

/-- The Mixer at start-up with this directory and these zones (R123, R127 to R129). -/
def Mixer.start (clips : Table 256 ClipEntry) (zones : Table 4 SoundZoneDef) : Mixer :=
  { clips := clips, zones := zones.map SoundZoneState.start, occupied := .fill 8 false, latch := false,
    answering := true, probeAt := none, probeOwed := false, read := none, lastServed := 7 }

/-! Supervisor (chapter 8). -/

/-- A thermal sensor (section 8.1). -/
structure SensorState where
  defn : SensorDef
  reading : Reading
  thermal : Thermal
  faultLatch : Bool
  hotSeen : Bool
  criticalSeen : Bool
  deriving DecidableEq, Repr

/-- A sensor at start-up with this definition (R140). -/
def SensorState.start (d : SensorDef) : SensorState :=
  { defn := d, reading := .absent, thermal := .normal, faultLatch := false, hotSeen := false,
    criticalSeen := false }

/-- A group's driver-fault line and latch (section 8.3). -/
structure DriverLine where
  filter : Filter
  latch : Bool
  deriving DecidableEq, Repr

/-- The Supervisor: sensors, driver-fault lines, axis-group bindings, the emergency-stop line, the next
sampling instant and the sensors still to be read at the present one. -/
structure Supervisor where
  sensors : Table 4 SensorState
  lampLines : Table 6 DriverLine
  axisLines : Table 3 DriverLine
  axisBindings : Table 3 (Option Sensor)
  estop : Filter
  nextSample : Option Stamp
  toRead : List Sensor
  deriving DecidableEq, Repr

/-! Show Store (chapter 11). -/

/-- A Show Store operation on the flash (R171). -/
inductive FlashUser where | image | clipWrite | store
  deriving DecidableEq, Repr

/-- A clip-region write handed over by WRITE CLIP (R125, R171): the port to answer, the clip, the byte offset,
the bytes, the flash address, and the run time it began once it holds the flash. -/
structure ClipWrite where
  port : Port
  clip : ClipId
  offset : Nat
  data : List Byte
  address : Nat
  began : Option Stamp
  deriving DecidableEq, Repr

/-- A STORE SHOW in progress (R172): the port to answer, the copy and the acceptance. -/
structure StoreJob where
  port : Port
  copy : Definitions
  accepted : Stamp
  deriving DecidableEq, Repr

/-- The Show Store and the flash: load state, kind of start-up, the operation that holds the flash and those
that wait for it, the clip writes handed over, oldest first, and the store in progress, the show image region, the clip region as
address and byte pairs, and the count of bytes left free by failed writes. The store state is STORING while
`job` is present. -/
structure Store where
  load : LoadState
  kind : StartKind
  held : Option FlashUser
  queued : List FlashUser
  writes : List ClipWrite
  job : Option StoreJob
  image : FlashImage
  clips : List Host.Cell
  failedBytes : Nat
  deriving DecidableEq, Repr

/-- An erased show image region. -/
def FlashImage.erased : FlashImage := { bytes := [], lengthField := none, crcField := none, definitions := none }

/-- The Show Store as start-up begins over a flash that holds these regions (R174). -/
def Store.start (kind : StartKind) (image : FlashImage) (clips : List Host.Cell) (failedBytes : Nat) : Store :=
  { load := .loading, kind := kind, held := some .image, queued := [], writes := [], job := none,
    image := image, clips := clips, failedBytes := failedBytes }

/-! Deliveries from block to block that are events of their own. -/

/-- A floor zone's change on its way to a block (R15). `follows` names the zone that an input left for this one in
the same DEFINE INPUT: that zone's change is delivered first (R14). -/
structure ZoneChange where
  zone : FloorZone
  state : ZoneState
  follows : Option FloorZone
  deriving DecidableEq, Repr

/-- A sensor's change on its way to a block (R143). -/
structure ThermalChange where
  sensor : Sensor
  state : Thermal
  derate : Nat
  deriving DecidableEq, Repr

/-- An emergency-stop message on its way to a block (R146, R55). -/
inductive StopMessage where | on | off | resume
  deriving DecidableEq, Repr

/-- The deliveries made and not yet taken, oldest first, by receiving block. -/
structure Delivery where
  zoneScheduler : List ZoneChange
  zoneMotion : List ZoneChange
  zoneMixer : List ZoneChange
  thermalLighting : List ThermalChange
  thermalMotion : List ThermalChange
  thermalScheduler : List ThermalChange
  stopScheduler : List StopMessage
  stopLighting : List StopMessage
  stopMotion : List StopMessage
  stopMixer : List StopMessage
  stopOwner : List StopMessage
  deriving DecidableEq, Repr

/-- No delivery under way. -/
def Delivery.empty : Delivery :=
  { zoneScheduler := [], zoneMotion := [], zoneMixer := [], thermalLighting := [], thermalMotion := [],
    thermalScheduler := [], stopScheduler := [], stopLighting := [], stopMotion := [], stopMixer := [],
    stopOwner := [] }

end Sys2Proof.Machine
end

