-- ==== Sys2Proof/Machine/State.lean ====
section
/-! DEFINITION. The state of the part: its blocks, and the queue of commands that wait. -/

namespace Sys2Proof.Machine

/-- Why the machine stops: the manual gives every command an effect in every state, so no command faults and the
type has no constructor. -/
inductive Fault where
  deriving DecidableEq, Repr

/-- Why a command has no meaning. -/
inductive Refusal where
  /-- Raised by an arm of `exec` whose command has no meaning yet. Safe: nothing is claimed of it. No arm
  raises it in this model. -/
  | notModelled (mnemonic : String)
  deriving DecidableEq, Repr

/-- The state of the part, block by block (00_scope.md, Functional Blocks), and the commands that wait,
first in first out. -/
structure State where
  clock : Clock
  link : Link
  owner : Owner
  inputs : Inputs
  sched : Scheduler
  cues : Table 128 (List Cue)
  light : Lighting
  motion : MotionState
  mixer : Mixer
  supervisor : Supervisor
  store : Store
  delivery : Delivery
  pending : List Instr
  deriving DecidableEq, Repr

/-- The part right after power-on, with an erased flash, every field line LOW or inactive and the strap at
115,200 baud: start-up loading has begun and no command waits (R174; assumption logs 1 and 2). The scene table, cue
memory and every other working definition are those of the empty show until loading ends, which is the model's choice
(assumption log 36). -/
def State.reset : State :=
  { clock := Clock.start, link := Link.start .b115200, owner := Owner.start,
    inputs := { lines := .fill 16 (InputLine.start defaultInput false),
                zones := .fill 8 { hold := 0, state := .clear, expiry := none } },
    sched := Scheduler.start emptyShow.scenes, cues := emptyShow.lists,
    light := Lighting.start emptyShow.channels emptyShow.lampGroups,
    motion := MotionState.start (.fill 12 (AxisRec.start defaultAxis false false false)),
    mixer := Mixer.start emptyShow.clips emptyShow.soundZones,
    supervisor :=
      { sensors := emptyShow.sensors.map SensorState.start,
        lampLines := .fill 6 { filter := Filter.start false, latch := false },
        axisLines := .fill 3 { filter := Filter.start false, latch := false },
        axisBindings := emptyShow.axisBindings, estop := Filter.start false, nextSample := none, toRead := [] },
    store := Store.start .powerOn FlashImage.erased [] 0, delivery := Delivery.empty, pending := [] }

end Sys2Proof.Machine
end

