-- ==== Sys2Proof/Machine/Ops.lean ====
section
/-! DEFINITION. The named operations every block shares: run-time arithmetic, filters, the frame check, the
clip region of the flash as a memory, and the working record of one event. -/

namespace Sys2Proof.Machine

/-! Run time (R153). -/

/-- The run time. -/
def State.now (s : State) : Stamp := s.clock.runTime

/-- The milliseconds from one run time to another, by their unsigned difference (R153). -/
def elapsed (now t0 : Stamp) : Nat := (now - t0).toNat

/-- The run time has reached `due`: every interval is shorter than 2^31 ms (R153). -/
def reached (now due : Stamp) : Bool := decide (elapsed now due < 2147483648)

/-- A running timer has reached its expiry. -/
def expired (now : Stamp) (timer : Option Stamp) : Bool := timer.any (reached now)

/-- The run time `ms` milliseconds on. -/
def later (now : Stamp) (ms : Nat) : Stamp := now + BitVec.ofNat 32 ms

/-- The milliseconds left to `due`, 0 once it is reached. -/
def msLeft (now due : Stamp) : Nat := if reached now due then 0 else (due - now).toNat

/-- A quotient rounded to the nearest whole number, halves up. -/
def roundHalfUp (a b : Nat) : Nat := (2 * a + b) / (2 * b)

/-- A quotient rounded up. -/
def ceilDiv (a b : Nat) : Nat := (a + b - 1) / b

/-- A 16-bit count that saturates (00_scope.md, Quantities). -/
def countUp (n : Nat) : Nat := if n < 65535 then n + 1 else n

/-! Filters (R101, R145, R146). -/

/-- The raw line changes to `line`, whose sense is `sense`: before the first accepted sample every change
restarts the filter; after it the filter runs while the sense differs from the filtered state. -/
def Filter.change (f : Filter) (line sense : Bool) (now : Stamp) (ms : Nat) : Filter :=
  if line == f.line then f
  else if f.seeded then
    { f with line := line, timer := if sense == f.active then none else some (later now ms) }
  else { f with line := line, timer := f.timer.map fun _ => later now ms }

/-- The filter's expiry: the filtered state takes the present sense. -/
def Filter.accept (f : Filter) (sense : Bool) : Filter :=
  { f with active := sense, timer := none, seeded := true }

/-- The first filter timer, started when loading ends. -/
def Filter.begin (f : Filter) (now : Stamp) (ms : Nat) : Filter := { f with timer := some (later now ms) }

/-- The sense of a raw level under a polarity (section 1.2, R101). -/
def sense (p : Polarity) (high : Bool) : Bool := match p with
  | .activeHigh => high
  | .activeLow => !high

/-! The frame check (section 10.1) and byte order. -/

/-- One bit of the CRC with polynomial x^16 + x^12 + x^5 + 1, most significant bit first. -/
def crcBit (crc : BitVec 16) : BitVec 16 :=
  if crc.msb then (crc <<< 1) ^^^ 0x1021#16 else crc <<< 1

/-- One byte of the CRC. -/
def crcByte (crc : BitVec 16) (b : Byte) : BitVec 16 :=
  let c := crc ^^^ ((b.zeroExtend 16) <<< 8)
  crcBit (crcBit (crcBit (crcBit (crcBit (crcBit (crcBit (crcBit c)))))))

/-- The CRC of frames and of the show image: initial value FFFFh, no reflection, no final inversion. -/
def crc16 (bytes : List Byte) : BitVec 16 := bytes.foldl crcByte 0xFFFF#16

/-- A number as little-endian bytes (section 12). -/
def leBytes : (count : Nat) → Nat → List Byte
  | 0, _ => []
  | k + 1, v => BitVec.ofNat 8 v :: leBytes k (v / 256)

/-- A signed number as little-endian two's complement bytes. -/
def leSigned (count : Nat) (v : Int) : List Byte := leBytes count (v % (256 ^ count : Int)).toNat

/-- The number little-endian bytes spell. -/
def leNat : List Byte → Nat
  | [] => 0
  | b :: rest => b.toNat + 256 * leNat rest

/-! The clip region of the flash (sections 7.1 and 11.1): bytes at addresses below 67,108,864. -/

/-- What a byte of the clip region that nothing has written reads as (assumption log 2). -/
def erasedByte : Byte := 0xFF#8

/-- The size of the clip region: 131,072 blocks of 512 bytes. -/
def clipRegionBytes : Nat := 67108864

/-- The number of blocks of the clip region. -/
def clipRegionBlocks : Nat := 131072

/-- Reads one byte of the clip region. -/
def readByte : List Host.Cell → Nat → Byte
  | [], _ => erasedByte
  | (k, b) :: rest, a => if k = a then b else readByte rest a

/-- Writes one byte of the clip region, keeping its canonical form: addresses strictly rising, and no cell
that holds what an unlisted address reads as. -/
def writeByte : List Host.Cell → Nat → Byte → List Host.Cell
  | [], a, b => if b = erasedByte then [] else [(a, b)]
  | (k, v) :: rest, a, b =>
    if a < k then (if b = erasedByte then (k, v) :: rest else (a, b) :: (k, v) :: rest)
    else if a = k then (if b = erasedByte then rest else (a, b) :: rest)
    else (k, v) :: writeByte rest a b

/-- Writes bytes at rising addresses. -/
def writeBytes : List Host.Cell → Nat → List Byte → List Host.Cell
  | m, _, [] => m
  | m, a, b :: rest => writeBytes (writeByte m a b) (a + 1) rest

/-- The clip region that holds these cells, in canonical form; cells outside the region are dropped. -/
def canonicalCells : List Host.Cell → List Host.Cell
  | [] => []
  | (a, b) :: rest =>
    if a < clipRegionBytes then writeByte (canonicalCells rest) a b else canonicalCells rest

/-- Every address of a memory is above `low`, strictly rising, and no cell holds the erased byte. -/
def cellsAbove : Nat → List Host.Cell → Bool
  | _, [] => true
  | low, (a, b) :: rest => decide (low ≤ a) && !(b == erasedByte) && cellsAbove (a + 1) rest

/-- The canonical form of the clip region. -/
def Memory.wf (m : List Host.Cell) : Bool := cellsAbove 0 m

/-- The signed 16-bit sample at a byte address, little-endian (section 7.1, R125). -/
def readSample (m : List Host.Cell) (a : Nat) : Int :=
  ((readByte m (a + 1)) ++ (readByte m a)).toInt

/-- The 256 samples of a block of the clip region. -/
def readBlock (m : List Host.Cell) (block : Nat) : List Int :=
  (List.range 256).map fun i => readSample m (512 * block + 2 * i)

/-! The working record of one event. -/

/-- What a block reports within an event, taken by the Scheduler or the Track Player in the same event. -/
inductive Task where
  /-- A PLAYING track of a context issues its record if it is due (R69). -/
  | run (c : CtxId) (k : Nat) (serial : Nat)
  /-- A completion is reported to a track (R70). -/
  | complete (x : TrackRef) (on : Awaited)
  /-- The normal-end test of a context (R46). -/
  | testEnd (c : CtxId)
  /-- An axis became homed or not homed, FAULTED or not FAULTED (R103 item 1). -/
  | axisReady (a : Axis)
  /-- An axis became FAULTED: the scene that claims it is aborted (R48). -/
  | axisFaulted (a : Axis)
  /-- An axis came to rest (R103 item 3). -/
  | axisRest (a : Axis)
  /-- A return move of a context ended: it arrived or it was given up (R103 item 4, R120). -/
  | returnEnd (a : Axis) (c : CtxId) (arrived : Bool)
  /-- A sound zone fell silent with an empty list (R131). -/
  | zoneSilent (z : SoundZone)
  /-- The clip store fault latch was set or cleared (R128, R149). -/
  | clipLatch (set : Bool)
  deriving DecidableEq, Repr

/-- The blocks that act on one another within one event, with the event's run time, the notices placed so
far (`sealed` by an earlier part of the event, then `notices`), the reports still to be taken, whether a
dispatch scan is called for, and the starts made. `cues` is read only. -/
structure Work where
  now : Stamp
  cues : Table 128 (List Cue)
  sched : Scheduler
  light : Lighting
  motion : MotionState
  mixer : Mixer
  sealed : List Notice
  notices : List Notice
  tasks : List Task
  owed : Bool
  started : List (SceneId × CtxId)
  deriving DecidableEq, Repr

/-- The working record an event begins with. -/
def State.work (s : State) : Work :=
  { now := s.now, cues := s.cues, sched := s.sched, light := s.light, motion := s.motion, mixer := s.mixer,
    sealed := [], notices := [], tasks := [], owed := false, started := [] }

/-- Places a notice in the outbox; one that finds 32 waiting is discarded and counted up to 255 (R165). -/
def Link.place (l : Link) (n : Notice) : Link :=
  if l.outbox.length < 32 then { l with outbox := l.outbox ++ [n] }
  else { l with missed := if l.missed < 255 then l.missed + 1 else l.missed }

/-- The state an event leaves: its blocks, and its notices placed in the outbox in order. -/
def State.commit (s : State) (w : Work) : State :=
  { s with sched := w.sched, light := w.light, motion := w.motion, mixer := w.mixer,
           link := (w.sealed ++ w.notices).foldl Link.place s.link }

/-- Adds a notice of the event. -/
def Work.note (w : Work) (b : NoticeBody) : Work := { w with notices := w.notices ++ [⟨w.now, b⟩] }

/-- Adds reports for the Scheduler and the Track Player. -/
def Work.push (w : Work) (ts : List Task) : Work := { w with tasks := w.tasks ++ ts }

/-- Ends a part of an event that the Scheduler takes on its own: its notices stand. -/
def Work.sealNotices (w : Work) : Work := { w with sealed := w.sealed ++ w.notices, notices := [] }

/-- A scene of the table. -/
def Work.scene (w : Work) (i : SceneId) : Scene := w.sched.scenes.get i

/-- Changes a scene. -/
def Work.modScene (w : Work) (i : SceneId) (f : Scene → Scene) : Work :=
  { w with sched := { w.sched with scenes := w.sched.scenes.modify i f } }

/-- The record in a context. -/
def Work.ctx (w : Work) (c : CtxId) : Option Context := w.sched.contexts.get c

/-- Replaces what a context holds. -/
def Work.setCtx (w : Work) (c : CtxId) (x : Option Context) : Work :=
  { w with sched := { w.sched with contexts := w.sched.contexts.set c x } }

/-- Changes an occupied context. -/
def Work.modCtx (w : Work) (c : CtxId) (f : Context → Context) : Work := w.setCtx c ((w.ctx c).map f)

/-- The claims record of an axis or sound zone. -/
def Work.claim (w : Work) : Resource → Claim
  | .axis a => w.sched.axisClaims.get a
  | .zone z => w.sched.zoneClaims.get z

/-- Changes a claims record. -/
def Work.modClaim (w : Work) (r : Resource) (f : Claim → Claim) : Work := match r with
  | .axis a => { w with sched := { w.sched with axisClaims := w.sched.axisClaims.modify a f } }
  | .zone z => { w with sched := { w.sched with zoneClaims := w.sched.zoneClaims.modify z f } }

/-- An axis of the Motion Controller. -/
def Work.axis (w : Work) (a : Axis) : AxisRec := w.motion.axes.get a

/-- Changes an axis. -/
def Work.modAxis (w : Work) (a : Axis) (f : AxisRec → AxisRec) : Work :=
  { w with motion := { w.motion with axes := w.motion.axes.modify a f } }

/-- A sound zone of the Mixer. -/
def Work.zone (w : Work) (z : SoundZone) : SoundZoneState := w.mixer.zones.get z

/-- Changes a sound zone. -/
def Work.modZone (w : Work) (z : SoundZone) (f : SoundZoneState → SoundZoneState) : Work :=
  { w with mixer := { w.mixer with zones := w.mixer.zones.modify z f } }

/-- Changes a lamp channel. -/
def Work.modChannel (w : Work) (c : Channel) (f : ChannelState → ChannelState) : Work :=
  { w with light := { w.light with channels := w.light.channels.modify c f } }

/-- The scene in a context, if it is occupied. -/
def Work.ctxScene (w : Work) (c : CtxId) : Option SceneId := (w.ctx c).map (·.scene)

/-- Carries `f` along a list of units. -/
def Work.each (w : Work) (l : List α) (f : Work → α → Work) : Work := l.foldl f w

end Sys2Proof.Machine
end

