-- ==== Sys2Proof/Machine/Flags.lean ====
section
/-! DEFINITION. The conditions the part derives from its state: the readiness categories and the ready lines
(sections 2.5 and 2.6), floor-zone occupancy, homed axes and the thermal state of a group. -/

namespace Sys2Proof.Machine

/-- The lamp group of a channel: group g holds channels 8g-7 to 8g (section 5.2). -/
def groupOfChannel (c : Channel) : LampGroup := ⟨c.val / 8, by have := c.isLt; omega⟩

/-- The axis group of an axis: group g holds axes 4g-3 to 4g (section 6.1). -/
def groupOfAxis (a : Axis) : AxisGroup := ⟨a.val / 4, by have := a.isLt; omega⟩

/-- The channels of a lamp group. -/
def channelsOf (g : LampGroup) : List Channel := (units 48).filter fun c => groupOfChannel c == g

/-- The axes of an axis group. -/
def axesOf (g : AxisGroup) : List Axis := (units 12).filter fun a => groupOfAxis a == g

/-- A floor-zone state counts as occupied (section 1.6). -/
def zoneOccupied (z : ZoneState) : Bool := match z with
  | .clear => false
  | .occupied => true
  | .holding => true

/-- An axis is homed (R25, R103). -/
def AxisRec.homed (x : AxisRec) : Bool := match x.state with
  | .idle => true
  | .moving => true
  | .held => true
  | .stopping => !x.stoppedHoming
  | .unhomed => false
  | .homing => false
  | .faulted => false

/-- An axis is at rest for the normal-end test (R46). -/
def AxisRec.atRest (x : AxisRec) : Bool := match x.state with
  | .idle => true
  | .faulted => true
  | .unhomed => true
  | .moving => false
  | .held => false
  | .stopping => false
  | .homing => false

/-- AXES (R25). -/
def axesReady (r : SceneRecord) (c : Conditions) (axes : Table 12 AxisRec) : Bool :=
  r.axes.all fun a =>
    (axes.get a).homed && !(c.axisLatch.get (groupOfAxis a)) && !(c.axisCritical.get (groupOfAxis a))

/-- LAMPS (R25). -/
def lampsReady (r : SceneRecord) (c : Conditions) : Bool :=
  r.lamps.all fun ch => !(c.lampLatch.get (groupOfChannel ch)) && !(c.lampCritical.get (groupOfChannel ch))

/-- NARRATION (R25). -/
def narrationReady (r : SceneRecord) (c : Conditions) : Bool := r.zones.isEmpty || !c.clipFault

/-- AUDIENCE (R25). -/
def audienceReady (r : SceneRecord) (c : Conditions) : Bool := r.audience.all fun z => c.occupied.get z

/-- GUARD (R25). -/
def guardReady (r : SceneRecord) (c : Conditions) (axes : Table 12 AxisRec) : Bool :=
  r.axes.all fun a => (axes.get a).defn.guardZone.all fun z => !(c.occupied.get z)

/-- The overall result: the mask takes an ignored category as satisfied, and the mode must be OPEN (R25, R28). -/
def overallReady (m : Mask) (mode : Mode) (axes lamps narration audience guarded : Bool) : Bool :=
  (axes || !m.axes) && (lamps || !m.lamps) && (narration || !m.narration) && (audience || !m.audience) &&
    (guarded || !m.guarded) && decide (mode = .opened)

/-- The readiness of a scene from the present conditions; an undefined or disabled scene has none (R25). -/
def readinessOf (record : Option SceneRecord) (c : Conditions) (axes : Table 12 AxisRec) (mode : Mode) : Readiness :=
  match record with
  | none => Readiness.none
  | some r =>
    if r.enabled then
      { axes := axesReady r c axes, lamps := lampsReady r c, narration := narrationReady r c,
        audience := audienceReady r c, guarded := guardReady r c axes,
        overall := overallReady r.mask mode (axesReady r c axes) (lampsReady r c) (narrationReady r c)
                     (audienceReady r c) (guardReady r c axes) }
    else Readiness.none

/-- A scene lights the line it is assigned to: it is IDLE, its overall readiness is satisfied and the mode is
OPEN (R30). -/
def Scene.lights (x : Scene) (mode : Mode) (line : ReadyLine) : Bool :=
  decide ((x.record.bind (·.readyLine)) = some line) && decide (x.state = .idle) && x.ready.overall &&
    decide (mode = .opened)

/-- A ready line is lit: a function of the scenes assigned to it and of nothing else (R30). Being computed, it
is up to date in every event (R31). -/
def Scheduler.readyLine (s : Scheduler) (line : ReadyLine) : Bool :=
  s.scenes.rows.any fun x => x.lights s.mode line

/-- The lit or dark state of all sixteen ready lines. -/
def Scheduler.readyLines (s : Scheduler) : List Bool := (units 16).map s.readyLine

/-- The thermal state and derate percent a group takes from its binding: NORMAL with 100 where it is bound to
no sensor or to one that is not fitted (section 8.2). -/
def boundThermal (sensors : Table 4 SensorState) (binding : Option Sensor) : Thermal × Nat := match binding with
  | none => (.normal, 100)
  | some n => if (sensors.get n).defn.fitted then ((sensors.get n).thermal, (sensors.get n).defn.derate) else (.normal, 100)

/-- The lamp groups bound to a sensor. -/
def lampGroupsBound (l : Lighting) (n : Sensor) : List LampGroup :=
  (units 6).filter fun g => decide ((l.groups.get g).defn.sensor = some n)

/-- The axis groups bound to a sensor. -/
def axisGroupsBound (v : Supervisor) (n : Sensor) : List AxisGroup :=
  (units 3).filter fun g => decide (v.axisBindings.get g = some n)

/-- The member inputs of a floor zone: the PRESENCE inputs whose profile names it (R12). -/
def membersOf (lines : Table 16 InputLine) (z : FloorZone) : List InputId :=
  (units 16).filter fun i =>
    decide ((lines.get i).profile.role = .presence) && decide ((lines.get i).profile.zone = some z)

/-- Any member of a floor zone is ACTIVE. -/
def anyMemberActive (lines : Table 16 InputLine) (z : FloorZone) : Bool :=
  (membersOf lines z).any fun i => (lines.get i).active

/-- Any voice or bed of any zone is playing (R124). -/
def Mixer.anyPlaying (m : Mixer) : Bool := m.zones.rows.any fun z => z.voice.isSome || z.bed.isSome

/-- The number of occupied contexts. -/
def Scheduler.occupiedCount (s : Scheduler) : Nat := s.contexts.rows.countP (·.isSome)

/-- Every context is free. -/
def Scheduler.allFree (s : Scheduler) : Bool := s.contexts.rows.all (·.isNone)

end Sys2Proof.Machine
end

