-- ==== Sys2Proof/Machine/Operands.lean ====
section
/-! DEFINITION. Operands: identifiers, settings, codes and bit sets (00_scope.md and sections 12.3 and 12.5), the
records that request bodies spell with their clamps, the cross-checks of cue lists (R33, R62), and the checks of
a show image (R174). A decoder answers none where an identifier is out of range, and otherwise the record and
whether a setting was clamped. -/

namespace Sys2Proof.Machine

/-! Identifiers, settings, codes and bit sets. -/

/-- A unit by its number. -/
def unit? (n k : Nat) : Option (Fin n) := if h : 1 ≤ k ∧ k ≤ n then some ⟨k - 1, by omega⟩ else none

/-- An optional unit: 0 means none. -/
def optUnit? (n k : Nat) : Option (Option (Fin n)) := if k = 0 then some none else (unit? n k).map some

/-- A setting clamped to the nearest end of its range. -/
def clampTo (lo hi v : Nat) : Nat := max lo (min hi v)

/-- A signed setting clamped to the nearest end of its range. -/
def clampInt (lo hi v : Int) : Int := max lo (min hi v)

/-- An attenuation: 255 is muted, and every other value above 80 is clamped to 80. -/
def clampAttenuation (v : Nat) : Nat := if v = 255 then 255 else min 80 v

/-- The members of a bit set, in ascending order; a set bit that stands for no unit is out of range (R177). -/
def bitSet? (n v : Nat) : Option (List (Fin n)) :=
  if v < 2 ^ n then some ((units n).filter fun i => v.testBit i.val) else none

/-- A flag byte. -/
def flag? (v : Nat) : Option Bool := if v = 0 then some false else if v = 1 then some true else none

/-- A value by its code: the codes count from `base`. -/
def code? (base : Nat) (values : List α) (v : Nat) : Option α := if base ≤ v then values[v - base]? else none

/-! Records. -/

/-- A DEFINE INPUT body (R1). What the role does not use is not checked and takes its default. -/
def inputOf (b : InputBody) : Option (InputId × InputProfile × Bool) := do
  let i ← unit? 16 b.input
  let role ← code? 0 [Role.unused, Role.button, Role.presence] b.role
  let polarity ← code? 0 [Polarity.activeHigh, Polarity.activeLow] b.polarity
  let debounce := clampTo 2 250 b.debounce
  match role with
  | .unused => some (i, { defaultInput with polarity := polarity }, false)
  | .presence =>
    let z ← unit? 8 b.zone
    some (i, { defaultInput with role := .presence, polarity := polarity, debounce := debounce, zone := some z },
          debounce != b.debounce)
  | .button =>
    let scene ← optUnit? 64 b.scene
    let capture ← code? 0 [CaptureMode.first, CaptureMode.latest] b.capture
    let notify ← flag? b.notify
    let stuck := clampTo 5 600 b.stuckLimit
    some (i, { role := .button, polarity := polarity, debounce := debounce, zone := none, scene := scene,
               capture := capture, stuckLimit := stuck, notify := notify },
          debounce != b.debounce || stuck != b.stuckLimit)

/-- A track of a DEFINE SCENE body (R32). -/
def trackOf (b : TrackBody) : Option (TrackDef × Bool) := do
  let list ← unit? 128 b.list
  let mode ← code? 1 [TrackMode.once, TrackMode.repeated, TrackMode.loop] b.mode
  match mode with
  | .repeated =>
    let passes := clampTo 2 255 b.passes
    some ({ list := list, mode := .repeated, passes := passes }, passes != b.passes)
  | m => some ({ list := list, mode := m, passes := 0 }, false)

/-- The readiness mask: bits 0 to 4, where a set bit counts (section 12.5). -/
def maskOf (v : Nat) : Mask :=
  { axes := v.testBit 0, lamps := v.testBit 1, narration := v.testBit 2, audience := v.testBit 3, guarded := v.testBit 4 }

/-- A DEFINE SCENE body (R32): the scene and its record, or none where the track count is 0. -/
def sceneOf (b : SceneBody) : Option (SceneId × Option SceneRecord × Bool) := do
  let i ← unit? 64 b.scene
  if 4 < b.trackCount then none
  else if b.trackCount = 0 then some (i, none, false)
  else if b.tracks.length ≠ b.trackCount then none
  else
    let tracks ← b.tracks.mapM trackOf
    let enabled ← flag? b.enabled
    let lamps ← bitSet? 48 b.lamps
    let axes ← bitSet? 12 b.axes
    let zones ← bitSet? 4 b.zones
    let audience ← optUnit? 8 b.audience
    let readyLine ← optUnit? 16 b.readyLine
    let followOn ← optUnit? 64 b.followOn
    let r : SceneRecord :=
      { enabled := enabled, priority := clampTo 1 15 b.priority, lamps := lamps, axes := axes, zones := zones,
        tracks := tracks.map (·.1), mask := maskOf b.mask, audience := audience, readyLine := readyLine,
        waitLimit := clampTo 0 120 b.waitLimit, maxRun := clampTo 1 1800 b.maxRun,
        release := clampTo 0 10000 b.release, rest := clampTo 0 600 b.rest, followOn := followOn }
    some (i, some r, tracks.any (·.2) || r.priority != b.priority || r.waitLimit != b.waitLimit ||
                       r.maxRun != b.maxRun || r.release != b.release || r.rest != b.rest)

/-- Two bytes as a number, the first least significant. -/
def word (lo hi : Byte) : Nat := lo.toNat + 256 * hi.toNat

/-- A byte as a clip number: every value names a clip. -/
def clipOf (b : Byte) : ClipId := ⟨b.toNat, b.isLt⟩

/-- A cue record (R63, R64): its parameters checked and clamped by its kind, its flags kept where the kind gives
them a meaning. Bits 3 to 7 of the flags byte, to which section 12.5 gives no meaning, are ignored (assumption log
24). -/
def cueOf (b : CueBody) : Option (Cue × Bool) :=
  let wait := b.flags.getLsbD 0
  let cut := b.flags.getLsbD 1
  let occupied := b.flags.getLsbD 2
  let delta := b.delta.toNat
  let plain (act : CueAct) : Cue := { delta := delta, wait := false, cut := false, occupiedOnly := false, act := act }
  match b.kind.toNat with
  | 1 => do
    let first ← unit? 48 b.p0.toNat
    let last ← unit? 48 b.p1.toNat
    if last < first then none
    else
      let level := word b.p2 b.p3
      let fade := word b.p4 b.p5
      some (plain (.lamp first last (min 1000 level) (min 60000 fade)), decide (1000 < level ∨ 60000 < fade))
  | 2 => do
    let a ← unit? 12 b.p0.toNat
    let speed := clampTo 1 100 b.p1.toNat
    let target := word b.p2 b.p3
    some ({ plain (.axis a speed (min 60000 target)) with wait := wait },
          speed != b.p1.toNat || decide (60000 < target))
  | 3 => do
    let z ← unit? 4 b.p0.toNat
    let attenuation := b.p2.toNat
    some ({ plain (.narrate z (clipOf b.p1) (min 80 attenuation)) with wait := wait, cut := cut, occupiedOnly := occupied },
          decide (80 < attenuation))
  | 4 => do
    let z ← unit? 4 b.p0.toNat
    let attenuation := clampAttenuation b.p1.toNat
    let ramp := word b.p2 b.p3
    some (plain (.ambience z attenuation (min 10000 ramp)), attenuation != b.p1.toNat || decide (10000 < ramp))
  | 5 => some (plain (.mark b.p0.toNat), false)
  | 6 => do
    let i ← unit? 64 b.p0.toNat
    some (plain (.request i), false)
  | _ => none

/-- A DEFINE CHANNEL body (R79). -/
def channelOf (b : ChannelBody) : Option (Channel × ChannelDef × Bool) := do
  let c ← unit? 48 b.channel
  let curve ← code? 0 [Curve.linear, Curve.square] b.curve
  some (c, { base := min 1000 b.base, curve := curve, floor := min 400 b.floor, safe := min 1000 b.safe },
        decide (1000 < b.base ∨ 400 < b.floor ∨ 1000 < b.safe))

/-- A DEFINE LAMP GROUP body (R80). -/
def lampGroupOf (b : LampGroupBody) : Option (LampGroup × LampGroupDef × Bool) := do
  let g ← unit? 6 b.group
  let response ← code? 0 [EstopResponse.holdSafe, EstopResponse.timed] b.response
  let n ← optUnit? 4 b.sensor
  let hold := clampTo 1 600 b.hold
  some (g, { master := min 1000 b.master, response := response, hold := hold, sensor := n },
        decide (1000 < b.master) || hold != b.hold)

/-- A DEFINE AXIS body (R100): the settings clamped in the rule's order. -/
def axisOf (b : AxisBody) : Option (Axis × AxisDef × Bool) := do
  let a ← unit? 12 b.axis
  let enabled ← flag? b.enabled
  let guardZone ← optUnit? 8 b.guardZone
  let guardAction ← code? 0 [GuardAction.stop, GuardAction.creep] b.guardAction
  let sense ← code? 0 [Polarity.activeHigh, Polarity.activeLow] b.sense
  let min' := min 60000 b.min
  let max' := min 60000 b.max
  if max' ≤ min' then none
  else
    let maxSpeed := clampTo 10 4000 b.maxSpeed
    let accel := clampTo 100 20000 b.accel
    let d : AxisDef :=
      { enabled := enabled, min := min', max := max', home := clampTo min' max' b.home, maxSpeed := maxSpeed,
        accel := accel, emergency := max accel (clampTo 100 40000 b.emergency),
        homingSpeed := clampTo 10 1000 b.homingSpeed, returnPercent := clampTo 1 100 b.returnPercent,
        guardZone := guardZone, guardAction := guardAction, creep := min maxSpeed (clampTo 10 500 b.creep),
        sense := sense }
    some (a, d, d.min != b.min || d.max != b.max || d.home != b.home || d.maxSpeed != b.maxSpeed ||
                  d.accel != b.accel || d.emergency != b.emergency || d.homingSpeed != b.homingSpeed ||
                  d.returnPercent != b.returnPercent || d.creep != b.creep)

/-- A DEFINE SOUND ZONE body (R129). -/
def soundZoneOf (b : SoundZoneBody) : Option (SoundZone × SoundZoneDef × Bool) := do
  let z ← unit? 4 b.zone
  let floor ← optUnit? 8 b.floor
  if h : b.bed < 256 then
    let base := clampAttenuation b.base
    let ramp := clampTo 50 2000 b.ramp
    some (z, { floor := floor, bed := if b.bed = 0 then none else some ⟨b.bed, h⟩, base := base,
               depth := min 80 b.depth, ramp := ramp },
          base != b.base || decide (80 < b.depth) || ramp != b.ramp)
  else none

/-- A DEFINE SENSOR body (R139); thresholds are counts of 0.5 °C. -/
def sensorOf (b : SensorBody) : Option (Sensor × SensorDef × Bool) := do
  let n ← unit? 4 b.sensor
  let fitted ← flag? b.fitted
  let hot := clampInt 80 240 b.hot
  let critical := min 260 b.critical
  let derate := clampInt 50 100 b.derate
  if critical ≤ hot then none
  else some (n, { fitted := fitted, hot := hot, critical := critical, derate := derate.toNat },
             hot != b.hot || critical != b.critical || derate != b.derate)

/-- A DEFINE TIMETABLE ENTRY body (R156); the action NONE empties the entry, and the weekdays, minute and scene sent
beside it are not looked at (assumption log 24). -/
def timetableOf (b : TimetableBody) : Option (EntryId × Option TimetableEntry) := do
  let e ← unit? 32 b.entry
  if b.action = 0 then some (e, none)
  else
    let days ← bitSet? 7 b.days
    if 1439 < b.minute then none
    else
      let action ← match b.action with
        | 1 => some TimetableAction.openShow
        | 2 => some .closeShow
        | 3 => (unit? 64 b.scene).map .start
        | _ => none
      some (e, some { days := days, minute := b.minute, action := action })

/-! Cross-checks of cue lists (R33, R62). -/

/-- A cue lies within a scene's claims (R33). -/
def cueWithin (r : SceneRecord) (q : Cue) : Bool := match q.act with
  | .lamp first last _ _ => (units 48).all fun c => !(decide (first ≤ c ∧ c ≤ last)) || r.lamps.contains c
  | .axis a _ _ => r.axes.contains a
  | .narrate z _ _ => r.zones.contains z
  | .ambience z _ _ => r.zones.contains z
  | .mark _ => true
  | .request _ => true

/-- How a track's list fails a scene: it has length 0, or the offset of its first cue outside the claims. -/
def listFails (r : SceneRecord) (cues : List Cue) : Option (Option Nat) :=
  if cues.isEmpty then some none
  else (cues.findIdx? fun q => !cueWithin r q).map some

/-- The first failure of a scene's tracks: the track number and the record offset, if there is one (R33). -/
def sceneFails (lists : Table 128 (List Cue)) (r : SceneRecord) : Option (Nat × Option Nat) :=
  r.tracks.zipIdx.findSome? fun (t, k) => (listFails r (lists.get t.list)).map fun o => (k + 1, o)

/-- A scene's record names a list in one of its tracks. -/
def names (r : SceneRecord) (l : ListId) : Bool := r.tracks.any fun t => t.list == l

/-- The first defined scene that names a changed list and fails with it (R62). -/
def listBreaks (scenes : Table 64 Scene) (lists : Table 128 (List Cue)) (l : ListId) : Option (SceneId × Nat × Option Nat) :=
  (units 64).findSome? fun i => match (scenes.get i).record with
    | some r => if names r l then (sceneFails lists r).map fun f => (i, f.1, f.2) else none
    | none => none

/-- A list is named by a scene that is QUEUED, RUNNING or RETURNING (R61, R65). -/
def listInUse (scenes : Table 64 Scene) (l : ListId) : Bool :=
  scenes.rows.any fun x => x.record.any (names · l) && match x.state with
    | .queued => true
    | .running => true
    | .returning => true
    | .off => false
    | .idle => false
    | .resting => false

/-- The sum of the lengths of all cue lists (R60). -/
def cueCount (lists : Table 128 (List Cue)) : Nat := (lists.rows.map (·.length)).sum

/-- The records free in cue memory (R60). -/
def cuesFree (lists : Table 128 (List Cue)) : Nat := 4096 - cueCount lists

/-- A record added to a list (R60). -/
def blankCue : Cue := { delta := 0, wait := false, cut := false, occupiedOnly := false, act := .mark 0 }

/-! The checks of a show image (R174). -/

/-- A value lies in a range. -/
def within (lo hi v : Nat) : Bool := decide (lo ≤ v) && decide (v ≤ hi)

/-- An attenuation of a bed: 0 to 80, or 255. -/
def attenuationOk (v : Nat) : Bool := decide (v ≤ 80) || decide (v = 255)

/-- The fields that an input's role uses lie in their ranges; a field that it does not use is not checked (R1). -/
def inputOk (p : InputProfile) : Bool := match p.role with
  | .unused => true
  | .button => within 2 250 p.debounce && within 5 600 p.stuckLimit
  | .presence => within 2 250 p.debounce && p.zone.isSome

/-- A REPEAT track's pass count lies in its range; that of any other track is not checked (R32). -/
def trackOk (t : TrackDef) : Bool := match t.mode with
  | .repeated => within 2 255 t.passes
  | .once => true
  | .loop => true

/-- The settings of a scene record lie in their ranges, and it has 1 to 4 tracks (R32). -/
def recordOk (r : SceneRecord) : Bool :=
  within 1 15 r.priority && within 1 4 r.tracks.length && r.tracks.all trackOk && within 0 120 r.waitLimit &&
    within 1 1800 r.maxRun && within 0 10000 r.release && within 0 600 r.rest

/-- A cue is one that WRITE CUES makes (R63). -/
def cueOk (q : Cue) : Bool := decide (q.delta ≤ 65535) && match q.act with
  | .lamp first last level fade => decide (first ≤ last) && decide (level ≤ 1000) && decide (fade ≤ 60000)
  | .axis _ speed target => within 1 100 speed && decide (target ≤ 60000)
  | .narrate _ _ attenuation => decide (attenuation ≤ 80)
  | .ambience _ attenuation ramp => attenuationOk attenuation && decide (ramp ≤ 10000)
  | .mark n => decide (n ≤ 255)
  | .request _ => true

/-- An axis definition's settings lie in their ranges (section 6.1), but for the two relations that R174 puts
among the cross-references. No home offset lies in the range min to max of an axis whose min is above its max, so that
such an image fails here, and of min not less than max only the two being equal is left to the cross-references: R174
names the one check and the other, and this order is the model's choice (assumption log 40). -/
def axisOk (d : AxisDef) : Bool :=
  decide (d.min ≤ 60000) && decide (d.max ≤ 60000) && within d.min d.max d.home && within 10 4000 d.maxSpeed &&
    within 100 20000 d.accel && within 100 40000 d.emergency && within 10 1000 d.homingSpeed &&
    within 1 100 d.returnPercent && within 10 500 d.creep && decide (d.creep ≤ d.maxSpeed)

/-- A sound-zone definition's settings lie in their ranges, and its bed is not clip 0 (section 7.3). -/
def soundZoneOk (d : SoundZoneDef) : Bool :=
  attenuationOk d.base && decide (d.depth ≤ 80) && within 50 2000 d.ramp && decide (d.bed ≠ some 0)

/-- A clip entry's fields lie in their ranges (R123); no request carries a start block or a count of bytes written, and
that R174 checks them is the model's choice (assumption log 40). -/
def clipOk : ClipEntry → Bool
  | .empty => true
  | .writing s l k => decide (s ≤ 131071) && within 1 16777215 l && decide (k ≤ 2 * l)
  | .defined s l => decide (s ≤ 131071) && within 1 16777215 l

/-- A sensor definition's settings lie in their ranges (section 8.1). -/
def sensorOk (d : SensorDef) : Bool :=
  decide (80 ≤ d.hot ∧ d.hot ≤ 240) && decide (d.critical ≤ 260) && within 50 100 d.derate

/-- Every setting lies in the range its defining request accepts, and the cue lists fit cue memory (R174,
ranges). -/
def rangesOk (d : Definitions) : Bool :=
  d.inputs.rows.all inputOk && (d.holds.rows.all fun h => decide (h ≤ 30000)) &&
    (d.scenes.rows.all fun x => x.all recordOk) &&
    (d.lists.rows.all fun l => decide (l.length ≤ 512) && l.all cueOk) && decide (cueCount d.lists ≤ 4096) &&
    (d.channels.rows.all fun c => decide (c.base ≤ 1000) && decide (c.floor ≤ 400) && decide (c.safe ≤ 1000)) &&
    (d.lampGroups.rows.all fun g => decide (g.master ≤ 1000) && within 1 600 g.hold) &&
    d.axes.rows.all axisOk && d.soundZones.rows.all soundZoneOk && d.clips.rows.all clipOk &&
    d.sensors.rows.all sensorOk && decide (-512 ≤ d.trim ∧ d.trim ≤ 511) &&
    d.timetable.rows.all fun e => e.all fun e => decide (e.minute ≤ 1439)

/-- The extent of an entry in blocks: its start block and the number of its blocks (R123). -/
def extentOf : ClipEntry → Option (Nat × Nat)
  | .empty => none
  | .writing s l _ => some (s, ceilDiv l 256)
  | .defined s l => some (s, ceilDiv l 256)

/-- Two extents have no block in common. -/
def apart (a b : Nat × Nat) : Bool := decide (a.1 + a.2 ≤ b.1) || decide (b.1 + b.2 ≤ a.1)

/-- The extents of a directory. -/
def extents (clips : Table 256 ClipEntry) : List (Nat × Nat) := clips.rows.filterMap extentOf

/-- Every extent lies in the clip region and overlaps none after it. -/
def extentsOk : List (Nat × Nat) → Bool
  | [] => true
  | e :: rest => decide (e.1 + e.2 ≤ clipRegionBlocks) && rest.all (apart e) && extentsOk rest

/-- The cross-references of an image hold (R174, cross-references). -/
def crossReferencesOk (d : Definitions) : Bool :=
  (d.scenes.rows.all fun x => x.all fun r => (sceneFails d.lists r).isNone) && extentsOk (extents d.clips) &&
    (d.axes.rows.all fun a => decide (a.min < a.max) && decide (a.accel ≤ a.emergency)) &&
    d.sensors.rows.all fun n => decide (n.hot < n.critical)

end Sys2Proof.Machine
end

