-- ==== Sys2Proof/Machine/Audio.lean ====
section
/-! DEFINITION. The Narration Mixer's shared operations: the gain factors and the mix (section 7.7), ramps and
ducks (7.5, 7.6), voice buffers (7.2), voices, lists and beds (7.4, 7.6), the clip store fault latch (R128) and
the clip directory's free blocks (7.1). -/

namespace Sys2Proof.Machine

/-! The mix (R135). -/

/-- The gain factors for attenuations 0 to 80: 32767·10^(-s/40) to the nearest whole number (R135). -/
def gainTable : List Nat :=
  [32767, 30934, 29204, 27570, 26028, 24572, 23197, 21900, 20675, 19518,
   18426, 17395, 16422, 15504, 14636, 13818, 13045, 12315, 11626, 10976,
   10362, 9782, 9235, 8718, 8231, 7770, 7336, 6925, 6538, 6172,
   5827, 5501, 5193, 4903, 4628, 4370, 4125, 3894, 3677, 3471,
   3277, 3093, 2920, 2757, 2603, 2457, 2320, 2190, 2067, 1952,
   1843, 1740, 1642, 1550, 1464, 1382, 1304, 1232, 1163, 1098,
   1036, 978, 923, 872, 823, 777, 734, 693, 654, 617,
   583, 550, 519, 490, 463, 437, 413, 389, 368, 347,
   328]

/-- The gain factor of an attenuation; 255, which is muted, gives 0 (R135). -/
def gain (s : Nat) : Nat := gainTable.getD s 0

/-- One term of the mix: the sample times the factor over 32768, a half rounded away from zero (R135). -/
def mixTerm (sample : Int) (factor : Nat) : Int :=
  let m := (2 * sample.natAbs * factor + 32768) / 65536
  if sample < 0 then -(m : Int) else m

/-- A sum saturated to 16 bits (R135). -/
def saturate (v : Int) : Int := max (-32768) (min 32767 v)

/-- The factor of a bed under a duck: their sum capped at 80, and 0 for a muted bed (R135). -/
def bedFactor (attenuation duck : Nat) : Nat := if attenuation = 255 then 0 else gain (min 80 (attenuation + duck))

/-! Ramps and ducks. -/

/-- An end of a ramp as it enters the arithmetic: muted counts as 80 (R133). -/
def rampEnd (a : Nat) : Nat := if a = 255 then 80 else a

/-- A ramp is over. -/
def Ramp.over (r : Ramp) (now : Stamp) : Bool := decide (r.duration = 0) || decide (r.duration ≤ elapsed now r.t0)

/-- The attenuation of a ramp at a run time, in whole steps toward the target (R133). -/
def Ramp.value (r : Ramp) (now : Stamp) : Nat :=
  if r.over now then r.target
  else
    let s := rampEnd r.start
    let t := rampEnd r.target
    let e := elapsed now r.t0
    if s ≤ t then s + (t - s) * e / r.duration else s - (s - t) * e / r.duration

/-- A new ramp from the present value (R133, R134). -/
def Ramp.retarget (r : Ramp) (now : Stamp) (target duration : Nat) : Ramp :=
  { start := r.value now, target := target, t0 := now, duration := duration }

/-- A ramp that is over is idle at its target. -/
def Ramp.settle (r : Ramp) (now : Stamp) : Ramp := if r.over now then .idle r.target else r

/-- A duck's value at a run time, for the depth and the ramp of its zone (R132). -/
def Duck.value (k : Duck) (depth ramp : Nat) (now : Stamp) : Nat :=
  let moved := depth * elapsed now k.t0 / ramp
  if k.up then min depth (k.start + moved) else k.start - moved

/-- A turn of the duck (R132). -/
def Duck.turn (k : Duck) (depth ramp : Nat) (now : Stamp) (up : Bool) : Duck :=
  { start := k.value depth ramp now, up := up, t0 := now }

/-- A duck that has reached its end stays there. -/
def Duck.settle (k : Duck) (depth ramp : Nat) (now : Stamp) : Duck :=
  let v := k.value depth ramp now
  if v = (if k.up then depth else 0) then { k with start := v, t0 := now } else k

/-- A zone's duck at a run time. -/
def SoundZoneState.duckValue (z : SoundZoneState) (now : Stamp) : Nat := z.duck.value z.defn.depth z.defn.ramp now

/-- Turns a zone's duck. -/
def SoundZoneState.turn (z : SoundZoneState) (now : Stamp) (up : Bool) : SoundZoneState :=
  { z with duck := z.duck.turn z.defn.depth z.defn.ramp now up }

/-! Buffers (R126). -/

/-- The number of blocks a length of samples occupies. -/
def blocksFor (length : Nat) : Nat := ceilDiv length 256

/-- The block of a clip that the `i`-th slot of a new buffer holds: a bed wraps, a voice stops at its end. -/
def slotBlock (loops : Bool) (blocks i : Nat) : Option Nat :=
  if loops then some (i % blocks) else if i < blocks then some i else none

/-- A buffer at sample 0 of a clip, all its slots EMPTY. -/
def Buffer.start (startBlock length : Nat) (loops : Bool) : Buffer :=
  { startBlock := startBlock, length := length, loops := loops, position := 0,
    slots := (List.range 4).map fun i => { block := slotBlock loops (blocksFor length) i, content := .empty } }

/-- The sample a buffer gives at its playback position. -/
def Buffer.sample (b : Buffer) : Int := match b.slots with
  | { content := .filled samples, .. } :: _ => samples.getD (b.position % 256) 0
  | _ => 0

/-- The block after the last slot's. -/
def Buffer.nextBlock (b : Buffer) : Option Nat :=
  (b.slots.getLast?.bind (·.block)).bind fun k =>
    if k + 1 < blocksFor b.length then some (k + 1) else if b.loops then some 0 else none

/-- The first slot is freed and assigned, EMPTY, to the next block the playback will need. -/
def Buffer.free (b : Buffer) : Buffer :=
  { b with slots := b.slots.drop 1 ++ [{ block := b.nextBlock, content := .empty }] }

/-- The buffer after one sample, and whether it freed a slot. A voice stands still at its clip's length. -/
def Buffer.advance (b : Buffer) : Buffer × Nat :=
  let p := b.position + 1
  if b.length ≤ b.position then (b, 0)
  else if p = b.length then
    if b.loops then ({ b.free with position := 0 }, 1) else ({ b with position := p }, 0)
  else if p % 256 = 0 then ({ b.free with position := p }, 1)
  else ({ b with position := p }, 0)

/-- The samples of `n` sample periods, the buffer after them and the number of slots freed. -/
def Buffer.play : Nat → Buffer → List Int × Buffer × Nat
  | 0, b => ([], b, 0)
  | n + 1, b =>
    let x := if b.length ≤ b.position then 0 else b.sample
    let (b', k) := b.advance
    let (xs, b'', k') := Buffer.play n b'
    (x :: xs, b'', k + k')

/-- A slot that holds no audio and can be read: it is EMPTY and has a block. -/
def Slot.wants (t : Slot) : Bool := decide (t.content = .empty) && t.block.isSome

/-- The EMPTY slot nearest the playback position. -/
def Buffer.emptySlot (b : Buffer) : Option Nat := b.slots.findIdx? (·.wants)

/-- Changes a slot's contents. -/
def Buffer.fill (b : Buffer) (i : Nat) (c : SlotContent) : Buffer :=
  { b with slots := b.slots.modify i fun t => { t with content := c } }

/-- The buffer of the voice of a zone, 1 to 4. -/
def voiceBuffer (z : SoundZone) : Fin 8 := ⟨z.val, by have := z.isLt; omega⟩

/-- The buffer of the bed of a zone, 5 to 8. -/
def bedBuffer (z : SoundZone) : Fin 8 := ⟨z.val + 4, by have := z.isLt; omega⟩

/-- The zone a buffer serves. -/
def bufferZone (b : Fin 8) : SoundZone := ⟨b.val % 4, by omega⟩

/-- A buffer in use. -/
def Mixer.buffer (m : Mixer) (b : Fin 8) : Option Buffer :=
  let z := m.zones.get (bufferZone b)
  if b.val < 4 then z.voice.map (·.buffer) else z.bed

/-- Changes a buffer in use. -/
def Mixer.modBuffer (m : Mixer) (b : Fin 8) (f : Buffer → Buffer) : Mixer :=
  { m with zones := m.zones.modify (bufferZone b) fun z =>
             if b.val < 4 then { z with voice := z.voice.map fun v => { v with buffer := f v.buffer } }
             else { z with bed := z.bed.map f } }

/-- Slots of a buffer have been freed: a read in flight for the buffer is for a slot so much nearer, or for
none (R126). -/
def Mixer.freed (m : Mixer) (b : Fin 8) (n : Nat) : Mixer :=
  { m with read := m.read.map fun r => match r.target with
             | .slot c (some i) => if c = b then { r with target := .slot c (if n ≤ i then some (i - n) else none) } else r
             | _ => r }

/-- One millisecond of a zone's audio: what it played, and the slots its voice and bed freed (R126, R135). -/
def SoundZoneState.millisecond (z : SoundZoneState) (now : Stamp) : SoundZoneState × Nat × Nat :=
  let (vs, voice, kv) := match z.voice with
    | some v => let (xs, b, k) := v.buffer.play 24; (xs, some { v with buffer := b }, k)
    | none => (silentMillisecond, none, 0)
  let (bs, bed, kb) := match z.bed with
    | some b => let (xs, b, k) := b.play 24; (xs, some b, k)
    | none => (silentMillisecond, none, 0)
  let fv := match z.voice with
    | some v => gain v.item.attenuation
    | none => 0
  let fb := bedFactor (z.ramp.value now) (z.duckValue now)
  let mixed := (vs.zip bs).map fun (x, y) => saturate (mixTerm x fv + mixTerm y fb)
  ({ z with voice := voice, bed := bed, ramp := z.ramp.settle now, duck := z.duck.settle z.defn.depth z.defn.ramp now,
            output := if z.muted then silentMillisecond else mixed }, kv, kb)

/-- One millisecond of every zone's audio. -/
def Mixer.millisecond (m : Mixer) (now : Stamp) : Mixer :=
  (units 4).foldl (fun m z =>
    let (x, kv, kb) := (m.zones.get z).millisecond now
    (({ m with zones := m.zones.set z x }).freed (voiceBuffer z) kv).freed (bedBuffer z) kb) m

/-! Voices, waiting lists and beds. -/

/-- A clip's extent, while it is DEFINED. -/
def Mixer.defined (m : Mixer) (c : ClipId) : Option (Nat × Nat) := match m.clips.get c with
  | .defined s l => some (s, l)
  | _ => none

/-- The bed of a zone starts from sample 0, if it may play (R133). -/
def Mixer.startBed (m : Mixer) (z : SoundZone) : Mixer :=
  let x := m.zones.get z
  match x.defn.bed.bind m.defined with
  | some (s, l) =>
    if m.latch || x.muted then m
    else ({ m with zones := m.zones.modify z fun x => { x with bed := some (.start s l true) } }).freed (bedBuffer z) 4
  | none => m

/-- The bed of a zone stops, and reads for it are discarded (R126). -/
def Mixer.stopBed (m : Mixer) (z : SoundZone) : Mixer :=
  ({ m with zones := m.zones.modify z fun x => { x with bed := none } }).freed (bedBuffer z) 4

/-- The report that a clip has ended, for its waiting track (R131). -/
def clipTask (z : SoundZone) (x : ListedClip) : List Task := x.track.toList.map fun t => .complete t (.clip z x.clip)

/-- The voice of a zone, if PLAYING, stops and its clip completes as cut; the list is cleared, each entry
completing as dropped (R130, R134). -/
def Work.cutClips (w : Work) (z : SoundZone) : Work :=
  let x := w.zone z
  let w := w.modZone z fun x => { x with voice := none, waiting := [] }
  ({ w with mixer := w.mixer.freed (voiceBuffer z) 4 }).push
    ((x.voice.toList.map (fun (v : Voice) => v.item) ++ x.waiting).flatMap (clipTask z))

/-- A zone whose voice was PLAYING has fallen silent with an empty list: its duck turns DOWN (R131). -/
def Work.duckDown (w : Work) (z : SoundZone) : Work := w.modZone z fun x => x.turn w.now false

/-- A zone is cut and, if its voice was PLAYING, falls silent and is reported so (R131, R134). -/
def Work.silence (w : Work) (z : SoundZone) : Work :=
  if (w.zone z).voice.isSome then ((w.cutClips z).duckDown z).push [.zoneSilent z] else w.cutClips z

/-- A clip starts as the voice of a zone, from sample 0 (R130). -/
def Work.startVoice (w : Work) (z : SoundZone) (x : ListedClip) : Work := match w.mixer.defined x.clip with
  | some (s, l) => w.modZone z fun y => { y with voice := some { item := x, started := w.now, buffer := .start s l false } }
  | none => w

/-- The clip is started as the voice after the zone has been cut; the duck turns UP if the voice was SILENT
(R130, R132). -/
def Work.cutAndStart (w : Work) (z : SoundZone) (x : ListedClip) : Work :=
  let silent := (w.zone z).voice.isNone
  let w := (w.cutClips z).startVoice z x
  if silent then w.modZone z fun y => y.turn w.now true else w

/-- A NARRATE cue is skipped (R130). -/
def Work.narrateSkipped (w : Work) (z : SoundZone) (clip : ClipId) (occupiedOnly : Bool) : Bool :=
  (occupiedOnly && (w.zone z).defn.floor.any fun f => !(w.mixer.occupied.get f)) ||
    (w.mixer.defined clip).isNone || w.mixer.latch

/-- A NARRATE cue, handed over with the track if WAIT is set (R72, R130). The DROPPED notice gives that track, or 0
where the cue carries none (section 12.4). -/
def Work.narrateCue (w : Work) (c : CtxId) (scene : SceneId) (track : Option TrackRef) (z : SoundZone) (clip : ClipId)
    (attenuation : Nat) (cut occupiedOnly : Bool) : Work :=
  let x : ListedClip := { clip := clip, attenuation := attenuation, ctx := some c, track := track }
  if w.narrateSkipped z clip occupiedOnly then w.push (clipTask z x)
  else if cut then w.cutAndStart z x
  else if (w.zone z).voice.isNone then w.cutAndStart z x
  else if (w.zone z).waiting.length < 4 then w.modZone z fun y => { y with waiting := y.waiting ++ [x] }
  else (w.note (.droppedClip z clip (some scene) (track.map (·.track + 1)))).push (clipTask z x)

/-- An AMBIENCE cue (R133). -/
def Work.ambienceCue (w : Work) (z : SoundZone) (attenuation ramp : Nat) : Work :=
  w.modZone z fun x => { x with ramp := x.ramp.retarget w.now attenuation ramp }

/-- The bed of a zone ramps back to its base attenuation over the duck ramp (R134). -/
def Work.bedHome (w : Work) (z : SoundZone) : Work :=
  w.modZone z fun x => { x with ramp := x.ramp.retarget w.now x.defn.base x.defn.ramp }

/-- The Scheduler's cut of a zone at an abort (R134). -/
def Work.cutZone (w : Work) (z : SoundZone) : Work := (w.silence z).bedHome z

/-- A voice's clip has played out (R131). The next clip of the list starts, or the zone falls silent, before the track
that awaited the old one acts on its completion (assumption log 15). -/
def Work.clipOver (w : Work) (z : SoundZone) : Work := match (w.zone z).voice with
  | none => w
  | some v =>
    let rest := (w.zone z).waiting
    let w := w.modZone z fun x => { x with voice := none }
    let w := ({ w with mixer := w.mixer.freed (voiceBuffer z) 4 }).push (clipTask z v.item)
    match rest with
    | x :: rest => (w.modZone z fun y => { y with waiting := rest }).startVoice z x
    | [] => (w.duckDown z).push [.zoneSilent z]

/-- The clip store fault latch is set (R128). -/
def Work.setClipLatch (w : Work) : Work :=
  if w.mixer.latch then w
  else
    let silent := (units 4).filter fun z => (w.zone z).voice.isSome
    let w := { w with mixer := { w.mixer with latch := true, answering := false, probeAt := some (later w.now 500) } }
    let w := w.each (units 4) Work.cutClips
    let w := w.each silent Work.duckDown
    let w := { w with mixer := (units 4).foldl Mixer.stopBed w.mixer }
    w.push (.clipLatch true :: silent.map .zoneSilent)

/-- The clip store fault latch is cleared: the probes end and the beds start again (R128). -/
def Work.clearClipLatch (w : Work) : Work :=
  let m := { w.mixer with latch := false, probeAt := none, probeOwed := false }
  ({ w with mixer := (units 4).foldl Mixer.startBed m }).push [.clipLatch false]

/-! The clip directory (R123, R124). -/

/-- The blocks covered by no extent (R123). -/
def freeBlocks (clips : Table 256 ClipEntry) : Nat := clipRegionBlocks - ((extents clips).map (·.2)).sum

/-- A run of `n` blocks from `s` lies in the clip region and is free of these extents. -/
def fits (used : List (Nat × Nat)) (n s : Nat) : Bool :=
  decide (s + n ≤ clipRegionBlocks) && used.all fun e => apart (s, n) e

/-- The lowest start of `n` free blocks: the lowest free run begins at block 0 or at the end of an extent
(R124). -/
def lowestFree (used : List (Nat × Nat)) (n : Nat) : Option Nat :=
  ((0 :: used.map fun e => e.1 + e.2).filter (fits used n)).min?

end Sys2Proof.Machine
end

