-- ==== Sys2Proof/Machine/Levels.lean ====
section
/-! DEFINITION. The Lighting Engine's arithmetic and its shared operations: fade records, the level pipeline
(sections 5.1 and 5.4), contribution stacks and handovers (section 5.3), and the frame. -/

namespace Sys2Proof.Machine

/-- The value on the way from `s` to `t`, `e` of `d` milliseconds on: S plus (T - S)·e/D rounded to the nearest
whole number, a half away from zero; T once `e` reaches `d` (R78). -/
def fadeValue (s t e d : Nat) : Nat :=
  if d ≤ e then t
  else if s ≤ t then s + roundHalfUp ((t - s) * e) d
  else s - roundHalfUp ((s - t) * e) d

/-- The value of a fade record at a run time (R78). -/
def Fade.value (f : Fade) (now : Stamp) : Nat := fadeValue f.start f.target (elapsed now f.t0) f.duration

/-- A fade record that has reached its target is idle there and stays so (R78). -/
def Fade.settle (f : Fade) (now : Stamp) : Fade :=
  if f.duration ≤ elapsed now f.t0 then { start := f.target, target := f.target, t0 := f.t0, duration := 0 } else f

/-- A new fade from the record's own value at `now` (R82, R85). -/
def Fade.retarget (f : Fade) (now : Stamp) (level duration : Nat) : Fade :=
  { start := f.value now, target := level, t0 := now, duration := duration }

/-- The duration of the blends of section 5.6. -/
def blendMs : Nat := 2000

/-- The live value of the channel's source: the top contribution, or the base with an empty stack (R83). -/
def ChannelState.sourceValue (c : ChannelState) (now : Stamp) : Nat := match c.stack with
  | [] => c.base.value now
  | top :: _ => top.fade.value now

/-- The handover that runs at `now`, if any (R87). -/
def ChannelState.runningHandover (c : ChannelState) (now : Stamp) : Option Handover :=
  c.handover.filter fun h => decide (elapsed now h.t0 < h.duration)

/-- A running handover's value: its target is the new source's live value (R78, R87). -/
def ChannelState.handoverValue (c : ChannelState) (now : Stamp) (h : Handover) : Nat :=
  fadeValue h.start (c.sourceValue now) (elapsed now h.t0) h.duration

/-- The normal level N and its source: the last four lines of the table of R88. -/
def ChannelState.normal (c : ChannelState) (now : Stamp) : Nat × LevelSource :=
  match c.test with
  | some v => (v, .test)
  | none => match c.runningHandover now with
    | some h => (c.handoverValue now h, .handover)
    | none => match c.stack with
      | top :: _ => (top.fade.value now, .contribution top.ctx)
      | [] => (c.base.value now, .base)

/-- A level blend runs at `now`. -/
def LevelBlend.running (b : LevelBlend) (now : Stamp) : Bool := decide (elapsed now b.t0 < blendMs)

/-- The value of a level blend, whose target is the live base value or the live normal level (section 5.6). -/
def ChannelState.blendValue (c : ChannelState) (now : Stamp) (b : LevelBlend) : Nat :=
  fadeValue b.start (if b.toBase then c.base.value now else (c.normal now).1) (elapsed now b.t0) blendMs

/-- The pre-scale level L of a channel and its source (R88). -/
def ChannelState.level (c : ChannelState) (phase : EstopPhase) (now : Stamp) : Nat × LevelSource :=
  match phase with
  | .safe => (c.defn.safe, .safe)
  | .base => match c.levelBlend.filter fun b => b.toBase && b.running now with
    | some b => (c.blendValue now b, .baseBlend)
    | none => (c.base.value now, .base)
  | .clear => match c.levelBlend.filter fun b => !b.toBase && b.running now with
    | some b => (c.blendValue now b, .recovery)
    | none => c.normal now

/-- The master fade that runs at `now`, if any. -/
def ChannelState.runningMaster (c : ChannelState) (now : Stamp) : Option MasterFade :=
  c.masterFade.filter fun m => decide (elapsed now m.t0 < blendMs)

/-- The target of a master fade: the group's live master, or 1000 in a frame in which the normal level toward
which the channel recovers is a test level (R94, R95; assumption log 11). -/
def ChannelState.masterTarget (c : ChannelState) (g : LampGroupState) (now : Stamp) : Nat :=
  if g.phase = .clear ∧ (c.normal now).2 = .test then 1000 else g.defn.master

/-- The effective master M of a channel (R89). -/
def ChannelState.master (c : ChannelState) (g : LampGroupState) (now : Stamp) : Nat :=
  if g.phase = .safe then 1000
  else match c.runningMaster now with
    | some m => fadeValue m.start (c.masterTarget g now) (elapsed now m.t0) blendMs
    | none => if (c.level g.phase now).2 = .test then 1000 else g.defn.master

/-- The derate percent P used for a group (R89). No rule gives it for a group in CRITICAL, whose outputs are 0 whatever P
is: the 100 that QUERY LEVELS then reports is the model's choice (assumption log 37). -/
def LampGroupState.percent (g : LampGroupState) : Nat := if g.thermal = .hot then g.derate else 100

/-- The group's outputs are forced to 0 (R89 to R92). -/
def LampGroupState.forced (g : LampGroupState) : Bool := decide (g.thermal = .critical) || g.lineActive

/-- The scaled level Q (R89). -/
def scaledLevel (forced : Bool) (l m p : Nat) : Nat := if forced then 0 else roundHalfUp (l * m * p) 100000

/-- The PWM value of a scaled level: curve, then floor (R90). -/
def outputValue (curve : Curve) (floor q : Nat) : Nat :=
  let v := match curve with
    | .linear => roundHalfUp (q * 4095) 1000
    | .square => roundHalfUp (q * q * 4095) 1000000
  if 0 < v ∧ v < floor then floor else v

/-- A channel's part of a frame (R88 to R90). -/
def channelFrame (c : ChannelState) (g : LampGroupState) (now : Stamp) : ChannelFrame :=
  let l := c.level g.phase now
  { level := l.1, source := l.2,
    output := outputValue c.defn.curve c.defn.floor (scaledLevel g.forced l.1 (c.master g now) g.percent) }

/-- A group's part of a frame (R98). -/
def groupFrame (g : LampGroupState) : GroupFrame :=
  { phase := g.phase, master := g.defn.master, thermal := g.thermal, derate := g.percent, lineActive := g.lineActive }

/-- What a frame does to the records: fades that are over are idle, and blends and handovers that are over are
gone. No level is changed by it. -/
def ChannelState.settle (c : ChannelState) (now : Stamp) : ChannelState :=
  { c with base := c.base.settle now, stack := c.stack.map fun x => { x with fade := x.fade.settle now },
           handover := c.runningHandover now, levelBlend := c.levelBlend.filter (·.running now),
           masterFade := c.runningMaster now }

/-- A lighting frame at `now`: every channel by the pipeline, the outputs driven, the snapshot replaced (R77). -/
def Lighting.frame (l : Lighting) (now : Stamp) : Lighting :=
  { l with
    snapshot := { time := now,
                  channels := .ofFn fun c => channelFrame (l.channels.get c) (l.groups.get (groupOfChannel c)) now,
                  groups := l.groups.map groupFrame },
    channels := l.channels.map (·.settle now) }

/-- Makes a frame within an event. -/
def Work.frame (w : Work) : Work := { w with light := w.light.frame w.now }

/-! Contributions (section 5.3). -/

/-- Puts a contribution in the stack: by priority, and above those of its own priority (R83). -/
def stackInsert (x : Contribution) : List Contribution → List Contribution
  | [] => [x]
  | y :: rest => if y.priority ≤ x.priority then x :: y :: rest else y :: stackInsert x rest

/-- Opens a contribution of a context at the channel's present pre-scale level; if it becomes the top, the
handover and a level blend toward normal are cancelled (R84). A base blend of phase BASE runs on, so that the level
goes on from the same value and the outputs are the same whether the opening or the Resume is taken first (R84, R95);
that R84's words do not mean it is the model's reading (assumption log 34). -/
def ChannelState.openFor (c : ChannelState) (phase : EstopPhase) (now : Stamp) (ctx : CtxId) (priority : Nat) :
    ChannelState :=
  let stack := stackInsert { ctx := ctx, priority := priority, fade := .idle (c.level phase now).1 } c.stack
  if (stack.head?.map (·.ctx)) = some ctx then
    { c with stack := stack, handover := none, levelBlend := c.levelBlend.filter (·.toBase) }
  else { c with stack := stack }

/-- Removes a context's contribution by the case table of R86, with a handover as R87 gives. -/
def ChannelState.removeFor (c : ChannelState) (phase : EstopPhase) (now : Stamp) (ctx : CtxId) (release : Nat) :
    ChannelState :=
  let rest := c.stack.filter fun x => x.ctx ≠ ctx
  match c.stack with
  | [] => c
  | top :: _ =>
    if phase ≠ .clear then { c with stack := rest }
    else if top.ctx ≠ ctx then { c with stack := rest }
    else if release = 0 then { c with stack := rest, handover := none }
    else
      let start := match c.runningHandover now with
        | some h => c.handoverValue now h
        | none => top.fade.value now
      { c with stack := rest, handover := some { start := start, t0 := now, duration := release } }

/-- The E-stop phase of a channel's group. -/
def Work.phaseOf (w : Work) (c : Channel) : EstopPhase := (w.light.groups.get (groupOfChannel c)).phase

/-- The Scheduler asks for a contribution on every channel a scene claims (R84). -/
def Work.openContributions (w : Work) (channels : List Channel) (ctx : CtxId) (priority : Nat) : Work :=
  w.each channels fun w c => w.modChannel c fun x => x.openFor (w.phaseOf c) w.now ctx priority

/-- The Scheduler asks for the removal of a context's contributions (R86). -/
def Work.removeContributions (w : Work) (channels : List Channel) (ctx : CtxId) (release : Nat) : Work :=
  w.each channels fun w c => w.modChannel c fun x => x.removeFor (w.phaseOf c) w.now ctx release

/-- A LAMP cue on one channel (R85). -/
def ChannelState.cue (c : ChannelState) (now : Stamp) (ctx : CtxId) (level fade : Nat) : ChannelState :=
  { c with stack := c.stack.map fun x => if x.ctx = ctx then { x with fade := x.fade.retarget now level fade } else x }

/-- A LAMP cue on its channels, in ascending order (R72, R85). -/
def Work.lampCue (w : Work) (ctx : CtxId) (first last : Channel) (level fade : Nat) : Work :=
  w.each ((units 48).filter fun c => decide (first ≤ c ∧ c ≤ last)) fun w c =>
    w.modChannel c fun x => x.cue w.now ctx level fade

/-- A change of a lamp group's thermal state or derate reaches the Lighting Engine (R92). That a group which is CRITICAL
already and is given CRITICAL again, with another derate by a new binding, has its frame too is the model's choice
(assumption log 43). -/
def Work.lampThermal (w : Work) (g : LampGroup) (state : Thermal) (derate : Nat) : Work :=
  let w := { w with light := { w.light with groups := w.light.groups.modify g fun x =>
                                 { x with thermal := state, derate := derate } } }
  if state = .critical then w.frame else w

/-- A lamp group's driver-fault line reaches the Lighting Engine (R91). -/
def Work.lampLine (w : Work) (g : LampGroup) (active : Bool) : Work :=
  let w := { w with light := { w.light with groups := w.light.groups.modify g fun x => { x with lineActive := active } } }
  if active then w.frame else w

end Sys2Proof.Machine
end

