-- ==== Sys2Proof/Machine/Kinematics.lean ====
section
/-! DEFINITION. The motion of an axis (section 6.5): a trapezoid from its present point to rest at a target,
its stopping point, and the run toward the home switch, all in exact arithmetic. A speed or a place is a rational, or
lies over the square roots of the moves it comes from: the peak speed of a move that does not reach its speed limit is
one (R109). Speeds are in steps per second, times in seconds. -/

namespace Sys2Proof

/-! Exact numbers over a list of radicands, the foremost of which stands under the others. -/

/-- A rational is added. -/
def Surd.addRat (q : Rat) : Surd → Surd
  | .rat x => .rat (q + x)
  | .pair a b => .pair (a.addRat q) b

/-- The sum. -/
def Surd.add : Surd → Surd → Surd
  | .rat q, y => y.addRat q
  | .pair a b, .rat q => .pair (a.addRat q) b
  | .pair a b, .pair c d => .pair (a.add c) (b.add d)

/-- A rational multiple. -/
def Surd.scale (q : Rat) : Surd → Surd
  | .rat x => .rat (q * x)
  | .pair a b => .pair (a.scale q) (b.scale q)

/-- The difference. -/
def Surd.sub (x y : Surd) : Surd := x.add (y.scale (-1))

/-- The product. -/
def Surd.mul (roots : List Surd) (x y : Surd) : Surd := match x, y with
  | .rat q, y => y.scale q
  | .pair a b, .rat q => .scale q (.pair a b)
  | .pair a b, .pair c d => match roots with
    | [] => .rat 0
    | p :: roots =>
      .pair ((Surd.mul roots a c).add (Surd.mul roots (Surd.mul roots b d) p)) ((Surd.mul roots a d).add (Surd.mul roots b c))

/-- The square. -/
def Surd.square (roots : List Surd) (x : Surd) : Surd := .mul roots x x

/-- The sign of a rational. -/
def ratSign (q : Rat) : Int := if q < 0 then -1 else if q = 0 then 0 else 1

/-- The sign: of `a + b·√p` where `a` and `b` differ in sign, by that of a² - b²·p. -/
def Surd.sign (roots : List Surd) (x : Surd) : Int := match x with
  | .rat q => ratSign q
  | .pair a b => match roots with
    | [] => 0
    | p :: roots =>
      let m := Surd.sign roots a
      let n := if Surd.sign roots p = 0 then 0 else Surd.sign roots b
      if n = 0 then m
      else if m = 0 ∨ m = n then n
      else m * Surd.sign roots ((a.square roots).sub (Surd.mul roots (b.square roots) p))

/-- The order. -/
def Surd.le (roots : List Surd) (x y : Surd) : Bool := decide (0 ≤ Surd.sign roots (y.sub x))

/-- The magnitude. -/
def Surd.abs (roots : List Surd) (x : Surd) : Surd := if Surd.sign roots x < 0 then x.scale (-1) else x

/-- A whole number that the magnitude does not pass. -/
def Surd.bound (roots : List Surd) (x : Surd) : Nat := match x with
  | .rat q => q.floor.natAbs + 1
  | .pair a b => match roots with
    | [] => 0
    | p :: roots => Surd.bound roots a + Surd.bound roots b * (Surd.bound roots p + 1)

/-- The greatest whole number from `n` on that is at most `x`, below `n` plus 2 to the power `bits`. -/
def Surd.floorFrom (roots : List Surd) (x : Surd) : (bits : Nat) → Int → Int
  | 0, n => n
  | k + 1, n => x.floorFrom roots k (if Surd.le roots (.rat ((n + 2 ^ k : Int) : Rat)) x then n + 2 ^ k else n)

/-- The whole number next below, or the number itself if it is whole. -/
def Surd.floor (roots : List Surd) : Surd → Int
  | .rat q => q.floor
  | .pair a b =>
    let k := (Surd.bound roots (.pair a b)).log2 + 1
    Surd.floorFrom roots (.pair a b) (k + 1) (-2 ^ k)

/-- The whole number next above, or the number itself if it is whole. -/
def Surd.ceil (roots : List Surd) (x : Surd) : Int := -((x.scale (-1)).floor roots)

/-- A number as it stands once one more radicand stands before those it lies over. -/
def Surd.lift : Surd → Surd
  | .rat q => .rat q
  | .pair a b => .pair (.pair a b) (.rat 0)

end Sys2Proof

namespace Sys2Proof.Machine

/-- Seconds of milliseconds. -/
def seconds (ms : Nat) : Rat := (ms : Rat) / 1000

/-- The least whole number of milliseconds that is at least this many seconds. -/
def ceilMs (roots : List Surd) (t : Surd) : Nat := ((t.scale 1000).ceil roots).toNat

/-! Points of a motion. -/

/-- A point at rest at a whole step. -/
def Kin.rest (p : Int) (upward : Bool) : Kin := { place := .rat p, speed := .rat 0, upward := upward, roots := [] }

/-- The point is at rest. -/
def Kin.still (k : Kin) : Bool := decide (Surd.sign k.roots k.speed = 0)

/-- The place `u` steps on in the direction of travel. -/
def Kin.ahead (k : Kin) (u : Surd) : Surd := if k.upward then k.place.add u else k.place.sub u

/-- The last whole step reached in the direction of travel (R109). -/
def Kin.step (k : Kin) : Int := if k.upward then k.place.floor k.roots else k.place.ceil k.roots

/-- Where the axis comes to rest if it decelerates from now: the last whole step that deceleration reaches
(R110). -/
def Kin.stoppingPoint (k : Kin) (decel : Nat) : Int :=
  Kin.step { k with place := k.ahead ((k.speed.square k.roots).scale (1 / (2 * decel))) }

/-- The time to decelerate to rest. -/
def Kin.stopTime (k : Kin) (decel : Nat) : Surd := k.speed.scale (1 / decel)

/-- A deceleration goes on at time `t`. -/
def Kin.brakes (k : Kin) (decel : Nat) (t : Rat) : Bool := decide (0 < Surd.sign k.roots ((k.stopTime decel).addRat (-t)))

/-- The point after `t` of a constant acceleration, or deceleration, along the direction of travel. -/
def Kin.after (k : Kin) (faster : Bool) (accel : Nat) (t : Surd) : Kin :=
  let a : Rat := if faster then accel else -accel
  { k with place := k.ahead ((Surd.mul k.roots k.speed t).add ((t.square k.roots).scale (a / 2))),
           speed := k.speed.add (t.scale a) }

/-- The point a deceleration has reached after `t`. -/
def Kin.braking (k : Kin) (decel : Nat) (t : Rat) : Kin :=
  if k.brakes decel t then k.after false decel (.rat t) else .rest (k.stoppingPoint decel) k.upward

/-! A leg: a distance covered from a speed to rest, under a speed limit and an acceleration (R109). -/

/-- The square of the speed at which acceleration must turn into deceleration, if no limit comes first. -/
def peakSquare (roots : List Surd) (speed dist : Surd) (accel : Nat) : Surd :=
  (dist.scale accel).add ((speed.square roots).scale (1 / 2))

/-- The leg reaches its speed limit. -/
def reachesLimit (roots : List Surd) (speed dist : Surd) (limit accel : Nat) : Bool :=
  Surd.le roots (.rat limit) speed || Surd.le roots (.rat (limit * limit)) (peakSquare roots speed dist accel)

/-- A leg's course, over its own radicands: the speed it holds between its acceleration and its final deceleration,
the distance of the first change of speed, the times at which that change and the hold end, and the time of the whole
leg. -/
structure Leg where
  roots : List Surd
  cruise : Surd
  changed : Surd
  changeEnd : Surd
  holdEnd : Surd
  total : Surd

/-- The leg of a distance from a speed (R109). Where the speed limit is not reached, the speed it comes to is the square
root of `peakSquare`, and there is no hold. -/
def legOf (roots : List Surd) (speed dist : Surd) (limit accel : Nat) : Leg :=
  if reachesLimit roots speed dist limit accel then
    let c : Surd := .rat limit
    let t1 := ((c.sub speed).abs roots).scale (1 / accel)
    let d1 := (((Surd.rat (limit * limit)).sub (speed.square roots)).abs roots).scale (1 / (2 * accel))
    let t2 := t1.add (((dist.sub d1).addRat (-(limit * limit / (2 * accel)))).scale (1 / limit))
    { roots := roots, cruise := c, changed := d1, changeEnd := t1, holdEnd := t2, total := t2.addRat (limit / accel) }
  else
    let p := peakSquare roots speed dist accel
    let c : Surd := .pair (.rat 0) (.rat 1)
    let t1 := (c.sub speed.lift).scale (1 / accel)
    { roots := p :: roots, cruise := c, changed := ((p.sub (speed.square roots)).scale (1 / (2 * accel))).lift,
      changeEnd := t1, holdEnd := t1, total := t1.add (c.scale (1 / accel)) }

/-- A time under the radicands `roots` as it stands under those of a leg from there. -/
def Leg.time (l : Leg) (roots : List Surd) (t : Surd) : Surd := if l.roots.length = roots.length then t else t.lift

/-- The whole milliseconds, after a lead time, at which a leg is over, rounded up (R109). -/
def legMs (roots : List Surd) (lead speed dist : Surd) (limit accel : Nat) : Nat :=
  let l := legOf roots speed dist limit accel
  ceilMs l.roots ((l.time roots lead).add l.total)

/-- The magnitude of the way from a place to a target. -/
def distance (roots : List Surd) (p : Surd) (target : Nat) : Surd := ((Surd.rat target).sub p).abs roots

/-- The point that the leg from `k` to a target has reached after `t` (R109). -/
def Kin.legTo (k : Kin) (target limit accel : Nat) (t : Surd) : Kin :=
  let dist := distance k.roots k.place target
  let l := legOf k.roots k.speed dist limit accel
  let u := l.time k.roots t
  if Surd.le l.roots l.total u then .rest target k.upward
  else if Surd.le l.roots u l.changeEnd then k.after (Surd.le k.roots k.speed (.rat limit)) accel t
  else
    let e : Kin := if l.roots.length = k.roots.length then k else { k with place := k.place.lift, roots := l.roots }
    if Surd.le l.roots u l.holdEnd then
      { e with place := e.ahead (l.changed.add (Surd.mul l.roots l.cruise (u.sub l.changeEnd))), speed := l.cruise }
    else
      let left := l.total.sub u
      { e with place := e.ahead ((l.time k.roots dist).sub ((left.square l.roots).scale (accel / 2))), speed := left.scale accel }

/-- The target lies beyond the stopping point in the direction of travel (R110). -/
def Kin.beyond (k : Kin) (target accel : Nat) : Bool :=
  if k.upward then decide (k.stoppingPoint accel < target) else decide ((target : Int) < k.stoppingPoint accel)

/-- A point at rest that sets out toward a target, under the radicands of the motion before it. -/
def Kin.outset (roots : List Surd) (p : Int) (target : Nat) : Kin :=
  { place := .rat p, speed := .rat 0, upward := decide (p ≤ target), roots := roots }

/-- The point a move toward a target has reached after `t` (R109, R110). -/
def Kin.toward (k : Kin) (target limit accel : Nat) (t : Rat) : Kin :=
  if k.still then Kin.legTo { k with upward := Surd.le k.roots k.place (.rat target) } target limit accel (.rat t)
  else if k.beyond target accel then k.legTo target limit accel (.rat t)
  else if k.brakes accel t then k.braking accel t
  else (Kin.outset k.roots (k.stoppingPoint accel) target).legTo target limit accel ((k.stopTime accel).scale (-1) |>.addRat t)

/-- When a move toward a target comes to rest there, in whole milliseconds (R109, R110). -/
def Kin.towardMs (k : Kin) (target limit accel : Nat) : Nat :=
  if k.still ∨ k.beyond target accel then legMs k.roots (.rat 0) k.speed (distance k.roots k.place target) limit accel
  else if k.stoppingPoint accel = target then ceilMs k.roots (k.stopTime accel)
  else legMs k.roots (k.stopTime accel) (.rat 0) (distance k.roots (.rat (k.stoppingPoint accel)) target) limit accel

/-- The point a run with no target has reached after `t` (R105). -/
def Kin.running (k : Kin) (limit accel : Nat) (t : Surd) : Kin :=
  let t1 := (((Surd.rat limit).sub k.speed).abs k.roots).scale (1 / accel)
  if Surd.le k.roots t1 t then
    let d1 := (((Surd.rat (limit * limit)).sub (k.speed.square k.roots)).abs k.roots).scale (1 / (2 * accel))
    { k with place := k.ahead (d1.add ((t.sub t1).scale limit)), speed := .rat limit }
  else k.after (Surd.le k.roots k.speed (.rat limit)) accel t

/-- The point a motion has reached `ms` milliseconds after its start. -/
def Travel.at (m : Travel) (ms : Nat) : Kin :=
  let t := seconds ms
  match m.plan with
  | .stop decel => m.start.braking decel t
  | .toward target limit accel => m.start.toward target limit accel t
  | .run limit accel => m.start.running limit accel (.rat t)
  | .stopThenRun limit accel =>
    if m.start.brakes accel t then m.start.braking accel t
    else Kin.running { m.start with place := .rat (m.start.stoppingPoint accel), speed := .rat 0 } limit accel
           (((m.start.stopTime accel).scale (-1)).addRat t)

/-- When a motion comes to rest, in milliseconds after its start; a homing run has no end of its own. -/
def Travel.restMs (m : Travel) : Option Nat := match m.plan with
  | .stop decel => some (ceilMs m.start.roots (m.start.stopTime decel))
  | .toward target limit accel => some (m.start.towardMs target limit accel)
  | .run _ _ => none
  | .stopThenRun _ _ => none

/-- The motion has come to rest. -/
def Travel.over (m : Travel) (now : Stamp) : Bool := m.restMs.any fun ms => reached now (later m.t0 ms)

/-- The motion's point at a run time; once over, its place of rest. -/
def Travel.point (m : Travel) (now : Stamp) : Kin :=
  match m.plan with
  | .toward target _ _ => if m.over now then .rest target (m.at (elapsed now m.t0)).upward else m.at (elapsed now m.t0)
  | .stop decel => if m.over now then .rest (m.start.stoppingPoint decel) m.start.upward else m.at (elapsed now m.t0)
  | _ => m.at (elapsed now m.t0)

/-- The axis's point: of its motion, or at rest at its position (at its step count while homing). -/
def AxisRec.point (x : AxisRec) (now : Stamp) : Kin := match x.travel with
  | some m => m.point now
  | none => .rest (if x.state = .homing then x.steps else x.position.getD 0 : Nat) true

/-- The axis's position, while known (section 6.3). -/
def AxisRec.positionAt (x : AxisRec) (now : Stamp) : Option Nat :=
  x.position.map fun p => if x.travel.isSome then (x.point now).step.toNat else p

/-- The steps a homing run has made. -/
def AxisRec.stepsAt (x : AxisRec) (now : Stamp) : Nat :=
  if x.travel.isSome then (x.point now).step.toNat else x.steps

/-- The motion that sets out from the axis's present point under a plan. -/
def AxisRec.depart (x : AxisRec) (now : Stamp) (p : Plan) : Travel :=
  { t0 := now, start := x.point now, plan := p }

/-- The speed limit that a base speed gives under the axis's guard effect and its group's derate (R107). -/
def AxisRec.limit (x : AxisRec) (g : AxisGroupState) (base : Nat) : Nat :=
  let b := if x.guardEffect = .creeping then min base x.defn.creep else base
  if g.thermal = .hot then max 10 (roundHalfUp (b * g.derate) 100) else b

/-- The cruise speed of a speed percent (R107). -/
def AxisRec.cruiseOf (x : AxisRec) (percent : Nat) : Nat := max 10 (roundHalfUp (percent * x.defn.maxSpeed) 100)

end Sys2Proof.Machine
end

