-- ==== Sys2Proof/Machine/Motion.lean ====
section
/-! DEFINITION. The Motion Controller's shared operations: reports, moves and retargets (section 6.5), guards
(6.6), limits and driver faults (6.7), temperature (6.8), stopping (6.9) and return moves (6.10). -/

namespace Sys2Proof.Machine

/-- The group of an axis as last delivered. -/
def Work.axisGroup (w : Work) (a : Axis) : AxisGroupState := w.motion.groups.get (groupOfAxis a)

/-- The guard effect the axis's guard zone has now (section 6.6). -/
def Work.guardOf (w : Work) (a : Axis) : GuardEffect :=
  match (w.axis a).defn.guardZone with
  | none => .none
  | some z =>
    if w.motion.occupied.get z then (match (w.axis a).defn.guardAction with | .stop => .holding | .creep => .creeping)
    else .none

/-- The context that holds an axis (R41). -/
def Work.holderOf (w : Work) (a : Axis) : Option CtxId := (w.claim (.axis a)).holder

/-- The scene that holds an axis. -/
def Work.sceneHolding (w : Work) (a : Axis) : Option SceneId := (w.holderOf a).bind w.ctxScene

/-- The axis comes to rest: its waiting tracks are reported complete and the Scheduler is told (R103 items 2
and 3). The waiting tracks are a set and no rule orders the reports of one rest: that they are made in the order in
which the tracks joined it is the model's choice (assumption log 15). -/
def Work.comeToRest (w : Work) (a : Axis) : Work :=
  let ws := (w.axis a).waiting
  (w.modAxis a fun x => { x with waiting := [] }).push
    (ws.map (fun x => Task.complete x (.axis a)) ++ [.axisRest a])

/-- The end of a RETURN move is reported (R103 item 4, R120). -/
def Work.reportReturn (w : Work) (a : Axis) (kind : Option MoveKind) (arrived : Bool) : Work := match kind with
  | some (.ret c) => w.push [.returnEnd a c arrived]
  | _ => w

/-- The axis becomes IDLE at `p` and comes to rest. -/
def Work.restAt (w : Work) (a : Axis) (p : Option Nat) : Work :=
  (w.modAxis a fun x =>
    { x with state := .idle, position := p, travel := none, target := none, kind := none }).comeToRest a

/-- The axis has come to rest at its target: the move arrives (R109). -/
def Work.axisArrive (w : Work) (a : Axis) (p : Nat) : Work :=
  (w.restAt a (some p)).reportReturn a (w.axis a).kind true

/-- The motion toward the axis's target under its present speed limit. -/
def Work.depart (w : Work) (a : Axis) (target : Nat) : Work :=
  w.modAxis a fun x =>
    { x with state := .moving, target := some target,
             travel := some (x.depart w.now (.toward target (x.limit (w.axisGroup a) x.cruise) x.defn.accel)) }

/-- A move is begun or retargeted by the axis's state (R108 step 4, R110). -/
def Work.begin (w : Work) (a : Axis) (target : Nat) (kind : MoveKind) (cruise : Nat) : Work :=
  let x := w.axis a
  let k := x.point w.now
  let w := w.modAxis a fun x => { x with kind := some kind, cruise := cruise }
  match x.state with
  | .idle =>
    if x.position = some target then w.axisArrive a target
    else
      let g := w.guardOf a
      let w := w.modAxis a fun x => { x with guardEffect := g }
      if g = .holding then w.modAxis a fun x => { x with state := .held, target := some target }
      else w.depart a target
  | .held => w.modAxis a fun x => { x with target := some target }
  | .moving => if k.still ∧ k.step = target then w.axisArrive a target else w.depart a target
  | .stopping =>
    if k.still ∧ k.step = target then w.axisArrive a target
    else
      let g := w.guardOf a
      let w := w.modAxis a fun x => { x with guardEffect := g }
      if g = .holding then
        w.modAxis a fun x => { x with state := .held, target := some target,
                                      travel := some (x.depart w.now (.stop x.defn.accel)) }
      else w.depart a target
  | .unhomed => w
  | .homing => w
  | .faulted => w

/-- The reason for which a cue is skipped, by the first condition that holds (R108). -/
def Work.skipReason (w : Work) (a : Axis) : Option SkipReason :=
  let x := w.axis a
  if x.state = .unhomed then some .unhomed
  else if x.state = .homing ∨ (x.state = .stopping ∧ x.stoppedHoming) then some .homing
  else if x.state = .faulted then some .faulted
  else if (w.axisGroup a).thermal = .critical then some .critical
  else if w.motion.estop then some .estop
  else none

/-- A target clamped to the axis's soft limits (R108). -/
def AxisRec.clampTarget (x : AxisRec) (target : Nat) : Nat := max x.defn.min (min x.defn.max target)

/-- The Scheduler is told of an accepted move: the context's first on an axis it holds enters its return
journal, if the axis was homed (R50). -/
def Work.journalMove (w : Work) (c : CtxId) (a : Axis) (position : Option Nat) : Work :=
  match w.ctx c, position with
  | some x, some p =>
    if w.holderOf a = some c ∧ (w.axis a).homed ∧ !(x.journal.any fun e => e.axis == a) then
      w.modCtx c fun x => { x with journal := x.journal ++ [{ axis := a, position := p, outcome := .pending }] }
    else w
  | _, _ => w

/-- A waiting track joins an axis's waiting set, which holds it once (section 6.3, R108). -/
def joinWaiting (ws : List TrackRef) (track : Option TrackRef) : List TrackRef :=
  ws ++ track.toList.filter fun x => !ws.contains x

/-- An AXIS cue from a track of a context, with the track if it waits (R73, R108). -/
def Work.axisCue (w : Work) (c : CtxId) (scene : SceneId) (a : Axis) (speed target : Nat) (track : Option TrackRef) :
    Work :=
  match w.skipReason a with
  | some r =>
    (w.note (.skipped a scene target r)).push (track.toList.map fun x => Task.complete x (.axis a))
  | none =>
    let used := (w.axis a).clampTarget target
    let w := if used = target then w else w.note (.clamped a (some scene) target used)
    let w := w.journalMove c a ((w.axis a).positionAt w.now)
    let w := w.modAxis a fun x => { x with waiting := joinWaiting x.waiting track }
    w.begin a used (.cue c) ((w.axis a).cruiseOf speed)

/-- A return move handed over by the Scheduler (R120). While the emergency-stop flag is on it is not executed and
not reported, whatever else holds of the axis (R119; assumption log 19). -/
def Work.returnMove (w : Work) (c : CtxId) (a : Axis) (position : Nat) : Work :=
  if w.motion.estop then w
  else if (w.skipReason a).isSome then w.push [.returnEnd a c false]
  else
    (w.modAxis a fun x => { x with waiting := [] }).begin a position (.ret c)
      ((w.axis a).cruiseOf (w.axis a).defn.returnPercent)

/-- The speed limit has changed: a moving or homing axis goes on under the new one (R107). -/
def Work.replan (w : Work) (a : Axis) : Work :=
  w.modAxis a fun x =>
    match x.state, x.target, x.travel with
    | .moving, some target, some _ =>
      { x with travel := some (x.depart w.now (.toward target (x.limit (w.axisGroup a) x.cruise) x.defn.accel)) }
    | .homing, _, some m =>
      if x.paused then x
      else
        let limit := x.limit (w.axisGroup a) x.defn.homingSpeed
        match m.plan with
        | .stopThenRun _ accel =>
          if m.start.brakes accel (seconds (elapsed w.now m.t0)) then
            { x with travel := some (x.depart w.now (.stopThenRun limit x.defn.accel)) }
          else { x with travel := some (x.depart w.now (.run limit x.defn.accel)) }
        | _ => { x with travel := some (x.depart w.now (.run limit x.defn.accel)) }
    | _, _, _ => x

/-- The axis decelerates to rest with no target: STOPPING (R117 to R119). A homing run is thereby stopped. R118 and R119
clear the move kind with the target, and R117 names the target alone: that it is cleared at once there too is the
model's choice (assumption log 19). -/
def Work.brake (w : Work) (a : Axis) (decel : AxisDef → Nat) : Work :=
  w.modAxis a fun x =>
    { x with state := .stopping, travel := some (x.depart w.now (.stop (decel x.defn))),
             target := none, kind := none, paused := false,
             stoppedHoming := decide (x.state = .homing) || (decide (x.state = .stopping) && x.stoppedHoming) }

/-- A stop request of the Scheduler (R118). -/
def Work.stopAxis (w : Work) (a : Axis) : Work :=
  let x := w.axis a
  match x.state with
  | .moving => (w.brake a (·.accel)).modAxis a fun x => { x with guardEffect := .none }
  | .held =>
    if x.travel.isSome then (w.brake a (·.accel)).modAxis a fun x => { x with guardEffect := .none }
    else w.restAt a x.position
  | .homing => w.brake a (·.accel)
  | .stopping => w
  | .idle => w
  | .unhomed => w
  | .faulted => w

/-- The group of an axis enters CRITICAL (R117). That an axis set STOPPING thereby has no move kind is the model's
choice (assumption log 19). -/
def Work.criticalAxis (w : Work) (a : Axis) : Work :=
  let x := w.axis a
  match x.state with
  | .moving => (w.brake a (·.accel)).reportReturn a x.kind false
  | .held =>
    if x.travel.isSome then (w.brake a (·.accel)).reportReturn a x.kind false
    else (w.restAt a x.position).reportReturn a x.kind false
  | .homing => w.brake a (·.accel)
  | .stopping => w
  | .idle => w
  | .unhomed => w
  | .faulted => w

/-- The emergency stop reaches an axis (R119). -/
def Work.estopAxis (w : Work) (a : Axis) : Work :=
  let x := w.axis a
  match x.state with
  | .moving => w.brake a (·.emergency)
  | .held => if x.travel.isSome then w.brake a (·.emergency) else w.restAt a x.position
  | .homing => w.brake a (·.emergency)
  | .stopping => w.brake a (·.emergency)
  | .idle => w
  | .unhomed => w
  | .faulted => w

/-- An axis that is not FAULTED becomes FAULTED (R113, R114). -/
def Work.faultAxis (w : Work) (a : Axis) (cause : AxisFault) : Work :=
  let x := w.axis a
  let travel := decide (cause ≠ .driver)
  let w := w.modAxis a fun x =>
    { x with state := .faulted, position := none, travel := none, target := none, kind := none,
             guardEffect := .none, steps := 0, paused := false, stoppedHoming := false,
             travelCause := x.travelCause || travel, driverCause := x.driverCause || !travel,
             travelLatch := x.travelLatch || travel }
  let w := (w.note (.faulted a (w.sceneHolding a) cause)).push [.axisReady a, .axisFaulted a]
  let w := match x.state with
    | .moving => w.comeToRest a
    | .held => w.comeToRest a
    | .stopping => w.comeToRest a
    | _ => w
  w.reportReturn a x.kind false

/-- The group's driver-fault line reaches an enabled axis of the group (R114). -/
def Work.driverFaultAxis (w : Work) (a : Axis) : Work :=
  if (w.axis a).state = .faulted then w.modAxis a fun x => { x with driverCause := true }
  else w.faultAxis a .driver

/-- A fault cause has been removed: with the last one gone, a FAULTED axis becomes UNHOMED (R115). -/
def Work.causeGone (w : Work) (a : Axis) : Work :=
  let x := w.axis a
  if x.state = .faulted ∧ !x.travelCause ∧ !x.driverCause then
    (w.modAxis a fun x => { x with state := .unhomed }).push [.axisReady a]
  else w

/-- The group's driver-fault latch has been cleared (R115). -/
def Work.driverLatchCleared (w : Work) (g : AxisGroup) : Work :=
  w.each (axesOf g) fun w a => (w.modAxis a fun x => { x with driverCause := false }).causeGone a

/-- The home switch is found (R106). That the HOMED notice is placed before the change to homed is delivered to the
Scheduler is the model's choice (assumption log 45). -/
def Work.homeFound (w : Work) (a : Axis) : Work :=
  ((w.modAxis a fun x => { x with state := .idle, position := some x.defn.home, travel := none, steps := 0,
                                  paused := false }).note (.homed a (w.axis a).defn.home)).push [.axisReady a]

/-- The homing run of an axis that is UNHOMED or IDLE begins (R105). With the home switch and a limit switch both
active at that moment, the model takes the home switch first, as one of the two orders of R106 (assumption log 19). -/
def Work.startHoming (w : Work) (a : Axis) : Work :=
  let g := w.guardOf a
  let w := (w.modAxis a fun x => { x with state := .homing, position := none, travel := none, target := none,
                                          kind := none, steps := 0, paused := false, stoppedHoming := false,
                                          guardEffect := g }).push [.axisReady a]
  let x := w.axis a
  if x.home.active then w.homeFound a
  else if x.low.active || x.high.active then w.faultAxis a .limit
  else if g = .holding then w.modAxis a fun x => { x with paused := true }
  else w.modAxis a fun x =>
    { x with travel := some (x.depart w.now (.run (x.limit (w.axisGroup a) x.defn.homingSpeed) x.defn.accel)) }

/-- The axis's guard zone becomes occupied (R111). -/
def Work.guardOn (w : Work) (a : Axis) : Work :=
  match (w.axis a).defn.guardAction, (w.axis a).state with
  | .stop, .moving =>
    w.modAxis a fun x => { x with state := .held, guardEffect := .holding,
                                  travel := some (x.depart w.now (.stop x.defn.accel)) }
  | .stop, .homing =>
    w.modAxis a fun x => { x with guardEffect := .holding, paused := true,
                                  travel := x.travel.map fun _ => x.depart w.now (.stop x.defn.accel) }
  | .stop, _ => w.modAxis a fun x => { x with guardEffect := .holding }
  | .creep, _ => (w.modAxis a fun x => { x with guardEffect := .creeping }).replan a

/-- The axis's guard zone becomes CLEAR (R112). -/
def Work.guardOff (w : Work) (a : Axis) : Work :=
  let x := w.axis a
  let k := x.point w.now
  let w := w.modAxis a fun x => { x with guardEffect := .none }
  match x.state, x.target with
  | .held, some target =>
    if k.still ∧ k.step = target then w.axisArrive a target else w.depart a target
  | .homing, _ =>
    if x.paused then
      w.modAxis a fun x =>
        let limit := x.limit (w.axisGroup a) x.defn.homingSpeed
        { x with paused := false,
                 travel := some (x.depart w.now (if k.still then .run limit x.defn.accel
                                                 else .stopThenRun limit x.defn.accel)) }
    else w.replan a
  | _, _ => w.replan a

/-- A floor zone's change reaches the Motion Controller: only a change to or from CLEAR acts (R111, R112). -/
def Work.zoneToMotion (w : Work) (z : FloorZone) (occupied : Bool) : Work :=
  let was := w.motion.occupied.get z
  let w := { w with motion := { w.motion with occupied := w.motion.occupied.set z occupied } }
  if was == occupied then w
  else
    w.each ((units 12).filter fun a => decide ((w.axis a).defn.guardZone = some z)) fun w a =>
      if occupied then w.guardOn a else w.guardOff a

/-- A change of an axis group's thermal state or derate reaches the Motion Controller (R116, R117). -/
def Work.axisThermal (w : Work) (g : AxisGroup) (state : Thermal) (derate : Nat) : Work :=
  let was := (w.motion.groups.get g).thermal
  let w := { w with motion := { w.motion with groups := w.motion.groups.modify g fun x =>
                                  { x with thermal := state, derate := derate } } }
  if state = .critical then
    if was = .critical then w else w.each (axesOf g) Work.criticalAxis
  else w.each (axesOf g) Work.replan

/-- An axis group's driver-fault line as the Motion Controller records it. -/
def Work.recordAxisLine (w : Work) (g : AxisGroup) (active : Bool) : Work :=
  { w with motion := { w.motion with groups := w.motion.groups.modify g fun x => { x with lineActive := active } } }

/-- An axis group's driver-fault latch as the Motion Controller records it. -/
def Work.recordAxisLatch (w : Work) (g : AxisGroup) (latch : Bool) : Work :=
  { w with motion := { w.motion with groups := w.motion.groups.modify g fun x => { x with latch := latch } } }

/-- "Emergency stop on" reaches the Motion Controller (R119). -/
def Work.estopMotion (w : Work) : Work :=
  Work.each { w with motion := { w.motion with estop := true } } (units 12) Work.estopAxis

/-- An axis's switch by name. -/
def AxisRec.switch (x : AxisRec) : Switch → Filter
  | .home => x.home
  | .low => x.low
  | .high => x.high

/-- Changes an axis's switch. -/
def AxisRec.modSwitch (x : AxisRec) (sw : Switch) (f : Filter → Filter) : AxisRec := match sw with
  | .home => { x with home := f x.home }
  | .low => { x with low := f x.low }
  | .high => { x with high := f x.high }

/-- An accepted switch change to active is acted on by the axis's state (R101, R106, R113). -/
def Work.switchActive (w : Work) (a : Axis) (sw : Switch) : Work :=
  match sw, (w.axis a).state with
  | .home, .homing => w.homeFound a
  | .home, _ => w
  | _, .homing => w.faultAxis a .limit
  | _, .moving => w.faultAxis a .limit
  | _, .held => w.faultAxis a .limit
  | _, .stopping => w.faultAxis a .limit
  | _, _ => w

end Sys2Proof.Machine
end

