-- ==== Sys2Proof/Machine/Scheduler.lean ====
section
/-! DEFINITION. The Scene Scheduler and the Track Player (chapters 2 to 4): scene notices, readiness, the
queue, the claims table, starts, ends, aborts and returns, the dispatch scan, the playing of tracks, and the
order in which the reports of one event are taken. -/

namespace Sys2Proof.Machine

/-! Scene states and their notices (R24). -/

/-- The scene a SCENE notice is of, the state it left and the cause it carries. -/
def sceneNotice (n : Notice) : Option (SceneId × SceneState × Option EndCause) := match n.body with
  | .scene i left _ _ cause _ => some (i, left, cause)
  | _ => none

/-- A SCENE notice. A change that passes through a state within one event gives one notice, of the state first
left and the state finally entered, and none where the two are the same (R24). The one notice stands at the place of
the last of the changes, which is the model's choice (assumption log 16). -/
def Work.sceneNote (w : Work) (i : SceneId) (left entered : SceneState) (cause : Option EndCause) : Work :=
  let isOf : Notice → Bool := fun n => (sceneNotice n).any fun x => x.1 == i
  let earlier := (w.notices.find? isOf).bind sceneNotice
  let first := (earlier.map fun x => x.2.1).getD left
  let cause := cause.or (earlier.bind fun x => x.2.2)
  let w := { w with notices := w.notices.filter fun n => !isOf n }
  let ctx := if entered = .running ∨ entered = .returning then (w.scene i).context else none
  if first = entered then w else w.note (.scene i first entered ctx cause (w.scene i).runs)

/-- A scene enters a state, with its SCENE notice if that is a change. -/
def Work.enter (w : Work) (i : SceneId) (dest : SceneState) (cause : Option EndCause) : Work :=
  let left := (w.scene i).state
  if left = dest then w else (w.modScene i fun x => { x with state := dest }).sceneNote i left dest cause

/-! Readiness (section 2.5). -/

/-- A scene with its readiness evaluated from the present conditions (R25). -/
def Scene.evaluated (x : Scene) (s : Scheduler) (axes : Table 12 AxisRec) : Scene :=
  { x with ready := readinessOf x.record s.seen axes s.mode }

/-- The scenes a condition concerns are evaluated again; a change of an overall result that a delivered change
brings calls for a dispatch scan (R26, R27). -/
def Work.evaluate (w : Work) (concerns : SceneRecord → Bool) : Work :=
  let f : Scene → Scene := fun x => if x.record.any concerns then x.evaluated w.sched w.motion.axes else x
  let changed := w.sched.scenes.rows.any fun x => (f x).ready.overall != x.ready.overall
  { w with sched := { w.sched with scenes := w.sched.scenes.map f }, owed := w.owed || changed }

/-- One scene is evaluated after a change of its record (R34, R35). -/
def Work.evaluateScene (w : Work) (i : SceneId) : Work :=
  w.modScene i fun x => x.evaluated w.sched w.motion.axes

/-- A scene claims a channel of a lamp group. -/
def usesLamps (r : SceneRecord) (g : LampGroup) : Bool := r.lamps.any fun c => groupOfChannel c == g

/-- A scene claims an axis of an axis group. -/
def usesAxes (r : SceneRecord) (g : AxisGroup) : Bool := r.axes.any fun a => groupOfAxis a == g

/-- A change of a floor zone's occupancy is evaluated (R26): the scenes with that audience zone, and those that
claim an axis it guards. -/
def Work.zoneToScheduler (w : Work) (z : FloorZone) (occupied : Bool) : Work :=
  if w.sched.seen.occupied.get z == occupied then w
  else
    let w := { w with sched := { w.sched with seen := { w.sched.seen with
                                   occupied := w.sched.seen.occupied.set z occupied } } }
    w.evaluate fun r =>
      decide (r.audience = some z) || r.axes.any fun a => decide ((w.axis a).defn.guardZone = some z)

/-- The show mode changes: the MODE notice, every scene's readiness, and at OPEN a dispatch scan (R53). -/
def Work.setMode (w : Work) (m : Mode) (cause : ModeCause) : Work :=
  let old := w.sched.mode
  let w := { w with sched := { w.sched with mode := m } }
  let w := (w.note (.mode old m w.sched.returnMode cause)).evaluate fun _ => true
  { w with owed := w.owed || decide (m = .opened) }

/-! The queue (section 3.2). -/

/-- Every promise to the entry of a scene is cleared (R44). -/
def Work.clearPromises (w : Work) (i : SceneId) : Work :=
  let f : Claim → Claim := fun c => if c.promise = some i then { c with promise := none } else c
  { w with sched := { w.sched with axisClaims := w.sched.axisClaims.map f, zoneClaims := w.sched.zoneClaims.map f } }

/-- An entry is removed from the queue for a reason: its promises are cleared, its DROPPED notice comes before
its scene's SCENE notice, and a scan is called for (R38). -/
def Work.dropEntry (w : Work) (e : Entry) (reason : DropReason) (dest : SceneState) : Work :=
  let w := { w with sched := { w.sched with queue := w.sched.queue.filter fun (x : Entry) => x.scene ≠ e.scene } }
  let w := (w.clearPromises e.scene).note (.dropped e.scene e.source reason)
  { w.enter e.scene dest none with owed := true }

/-- The queue is flushed in queue order (R54 to R56). -/
def Work.flush (w : Work) (reason : DropReason) : Work :=
  w.each w.sched.queue fun w e => w.dropEntry e reason .idle

/-- An entry goes behind every entry of higher or equal priority (R38). -/
def insertEntry (e : Entry) : List Entry → List Entry
  | [] => [e]
  | x :: rest => if e.priority ≤ x.priority then x :: insertEntry e rest else e :: x :: rest

/-- How an arrival is decided (R37, R39). -/
inductive Arrival where | estop | service | closed | off | absorbed | full | placed
  deriving DecidableEq, Repr

/-- The queue holds 16 entries and none that this priority displaces: the candidate, the latest of the lowest
priority, is the last (R39). -/
def queueShut (q : List Entry) (priority : Nat) : Bool :=
  decide (16 ≤ q.length) && q.getLast?.any fun e => decide (priority ≤ e.priority)

/-- The decision on an arrival, by the first line of the table that applies (R37, R39). -/
def Work.arrival (w : Work) (i : SceneId) : Arrival :=
  if w.sched.mode = .standstill then .estop
  else if w.sched.mode = .service ∨ w.sched.suspended then .service
  else if w.sched.mode = .closed then .closed
  else match (w.scene i).state, (w.scene i).record with
    | .off, _ => .off
    | .idle, some r => if queueShut w.sched.queue r.priority then .full else .placed
    | .idle, none => .off
    | _, _ => .absorbed

/-- A request is placed in the queue (R38), after the candidate of a full queue has been displaced (R39). -/
def Work.place (w : Work) (i : SceneId) (source : Source) : Work := match (w.scene i).record with
  | none => w
  | some r =>
    let w := match w.sched.queue.getLast? with
      | some e => if 16 ≤ w.sched.queue.length then w.dropEntry e .displaced .idle else w
      | none => w
    let e : Entry := { scene := i, source := source, priority := r.priority, arrival := w.now,
                       expiry := later w.now (r.waitLimit * 1000), preempting := false }
    let w := { w with sched := { w.sched with queue := insertEntry e w.sched.queue } }
    { w.enter i .queued none with owed := true }

/-- The reason for which an arrival that is no link request is dropped (R37, R39). -/
def Arrival.reason : Arrival → Option DropReason
  | .estop => some .estop
  | .service => some .service
  | .closed => some .closed
  | .off => some .off
  | .full => some .full
  | .absorbed => none
  | .placed => none

/-- An arrival from a source other than a link, placed or dropped or absorbed; the scan it runs is the
caller's. -/
def Work.arrivePlace (w : Work) (i : SceneId) (source : Source) : Work :=
  let a := w.arrival i
  if a = .placed then w.place i source
  else match a.reason with
    | some r => w.note (.dropped i source r)
    | none => w

/-! Ends of scenes. -/

/-- The exclusive claims of a scene. -/
def claimsOf (r : SceneRecord) : List Resource := r.axes.map .axis ++ r.zones.map .zone

/-- A context's claims on these resources are released, which calls for a scan. -/
def Work.release (w : Work) (c : CtxId) (rs : List Resource) : Work :=
  { w.each rs (fun w r => w.modClaim r fun x => if x.holder = some c then { x with holder := none } else x)
    with owed := true }

/-- A scene goes to RESTING, or to IDLE with rest time 0 or after the emergency stop (R21 to R23). -/
def Work.rest (w : Work) (i : SceneId) (toIdle : Bool) : Work :=
  let ms := ((w.scene i).record.elim 0 (·.rest)) * 1000
  let cause := (w.scene i).endCause
  let w := w.modScene i fun x => { x with context := none }
  if toIdle ∨ ms = 0 then w.enter i .idle cause
  else (w.modScene i fun x => { x with restUntil := some (later w.now ms) }).enter i .resting cause

/-- A context becomes FREE with all its parts discarded, which calls for a scan (R41, R42). -/
def Work.freeCtx (w : Work) (c : CtxId) : Work := { w.setCtx c none with owed := true }

/-- The sound zones a context holds. -/
def Work.zonesHeld (w : Work) (c : CtxId) : List SoundZone :=
  (units 4).filter fun z => decide ((w.claim (.zone z)).holder = some c)

/-- The axes a context holds. -/
def Work.axesHeld (w : Work) (c : CtxId) : List Axis :=
  (units 12).filter fun a => decide ((w.claim (.axis a)).holder = some c)

/-- Everything a context holds. -/
def Work.held (w : Work) (c : CtxId) : List Resource := (w.axesHeld c).map .axis ++ (w.zonesHeld c).map .zone

/-- The normal end of a context's scene (R47). The follow-on is placed; one scan covers all of it. -/
def Work.endNormal (w : Work) (c : CtxId) (i : SceneId) (r : SceneRecord) : Work :=
  let w := w.modScene i fun x => { x with endCause := some .normal }
  let w := w.release c (claimsOf r)
  let w := w.removeContributions r.lamps c r.release
  let w := w.each r.zones Work.bedHome
  let w := (w.freeCtx c).rest i false
  match r.followOn with
  | some j => w.arrivePlace j (.chain i)
  | none => w

/-- Every track is DONE, every claimed axis at rest and every claimed zone silent (R46). -/
def Work.atEnd (w : Work) (x : Context) (r : SceneRecord) : Bool :=
  (x.tracks.all fun t => decide (t.phase = .done)) && (r.axes.all fun a => (w.axis a).atRest) &&
    r.zones.all fun z => (w.zone z).voice.isNone && (w.zone z).waiting.isEmpty

/-- The normal-end test of a context (R46). -/
def Work.testEnd (w : Work) (c : CtxId) : Work := match w.ctx c with
  | none => w
  | some x => match (w.scene x.scene).state, (w.scene x.scene).record with
    | .running, some r => if w.atEnd x r then w.endNormal c x.scene r else w
    | _, _ => w

/-- A track stopped by an abort; one that is DONE stays so (R75). -/
def Track.stop (t : Track) : Track := match t.phase with
  | .done => t
  | _ => { t with phase := .idle }

/-- The steps every abort of a RUNNING scene starts with (R48). -/
def Work.abortSteps (w : Work) (c : CtxId) (i : SceneId) (r : SceneRecord) (cause : EndCause) : Work :=
  let w := w.modScene i fun x => { x with endCause := some cause }
  let w := w.modCtx c fun x => { x with deadline := none, tracks := x.tracks.map Track.stop }
  let w := w.removeContributions r.lamps c r.release
  w.each (w.zonesHeld c) Work.cutZone

/-- The scene in a context and its record, if it is RUNNING. -/
def Work.runningIn (w : Work) (c : CtxId) : Option (SceneId × SceneRecord) :=
  (w.ctxScene c).bind fun i => if (w.scene i).state = .running then (w.scene i).record.map fun r => (i, r) else none

/-- The abort of a RUNNING scene with the RETURN form (R48, R49). -/
def Work.abortReturn (w : Work) (c : CtxId) (cause : EndCause) : Work := match w.runningIn c with
  | none => w
  | some (i, r) =>
    let w := w.abortSteps c i r cause
    let journal := (w.ctx c).elim [] (·.journal)
    let free := (w.axesHeld c).filter fun a => !(journal.any fun e => e.axis == a)
    let w := (w.release c ((w.zonesHeld c).map .zone)).release c (free.map .axis)
    if journal.isEmpty then (w.freeCtx c).rest i false
    else
      let w := w.modCtx c fun x =>
        { x with returnLimit := some (later w.now 120000),
                 journal := x.journal.map fun e => { e with outcome := .returning } }
      (w.enter i .returning (some cause)).each journal fun w e => w.returnMove c e.axis e.position

/-- The abort of a context's scene with the HALT form: a RUNNING scene, or at the emergency stop also a
RETURNING one (R22, R48, R52). Of the axes it holds those that move for it and those that are HOMING are stopped
(R118); that one which still goes on under a JOG is not is the model's choice (assumption log 44). -/
def Work.abortHalt (w : Work) (c : CtxId) (cause : EndCause) : Work := match w.ctxScene c with
  | none => w
  | some i => match (w.scene i).record with
    | none => w
    | some r =>
      let w := if (w.scene i).state = .running then w.abortSteps c i r cause
               else w.modScene i fun x => { x with endCause := some cause }
      let moving := (w.axesHeld c).filter fun a =>
        decide ((w.axis a).kind = some (.cue c)) || decide ((w.axis a).kind = some (.ret c)) ||
          decide ((w.axis a).state = .homing)
      let w := w.each moving Work.stopAxis
      ((w.release c (w.held c)).freeCtx c).rest i (decide (cause = .estop))

/-- Every RUNNING scene that meets a condition is aborted with the RETURN form, in ascending context order
(R48). -/
def Work.abortAll (w : Work) (p : SceneRecord → Bool) (cause : EndCause) : Work :=
  w.each (units 8) fun w c => if (w.runningIn c).any fun x => p x.2 then w.abortReturn c cause else w

/-- A journal entry whose outcome is RETURNING ends, arrived or abandoned; with the last one the context frees
(R51). -/
def Work.endEntry (w : Work) (a : Axis) (c : CtxId) (arrived : Bool) : Work := match w.ctx c with
  | none => w
  | some x => match x.journal.find? fun e => decide (e.axis = a) && decide (e.outcome = .returning) with
    | none => w
    | some e =>
      let o := if arrived then JournalOutcome.arrived else JournalOutcome.abandoned
      let w := w.modCtx c fun x =>
        { x with journal := x.journal.map fun e => if e.axis = a then { e with outcome := o } else e }
      let w := if arrived then w else w.note (.abandoned a x.scene e.position)
      let w := w.release c [.axis a]
      if ((w.ctx c).elim [] (·.journal)).any fun e => decide (e.outcome = .returning) then w
      else (w.freeCtx c).rest x.scene false

/-- A context's return limit has expired: every entry still RETURNING is abandoned, in journal order, and its
return move stopped (R51). -/
def Work.returnLimit (w : Work) (c : CtxId) : Work := match w.ctx c with
  | none => w
  | some x =>
    let late := x.journal.filter fun e => decide (e.outcome = .returning)
    let w := w.each late fun w e => w.endEntry e.axis c false
    w.each late fun w e => if (w.axis e.axis).kind = some (.ret c) then w.stopAxis e.axis else w

/-! Driver faults, temperature and the clip store as they reach the Scheduler (R26, R48). -/

/-- A lamp group's driver-fault latch is set or cleared. -/
def Work.lampLatch (w : Work) (g : LampGroup) (set : Bool) : Work :=
  let w := { w with sched := { w.sched with seen := { w.sched.seen with lampLatch := w.sched.seen.lampLatch.set g set } } }
  let w := w.evaluate fun r => usesLamps r g
  if set then w.abortAll (fun r => usesLamps r g) .fault else w

/-- An axis group's driver-fault latch is set or cleared. -/
def Work.axisLatch (w : Work) (g : AxisGroup) (set : Bool) : Work :=
  let w := { w with sched := { w.sched with seen := { w.sched.seen with axisLatch := w.sched.seen.axisLatch.set g set } } }
  let w := w.evaluate fun r => usesAxes r g
  if set then w.abortAll (fun r => usesAxes r g) .fault else w

/-- Groups take a thermal state: readiness, and on entry to CRITICAL the aborts. -/
def Work.thermalToScheduler (w : Work) (lamps : List LampGroup) (axes : List AxisGroup) (state : Thermal) : Work :=
  let crit := decide (state = .critical)
  let newLamps := lamps.filter fun g => crit && !(w.sched.seen.lampCritical.get g)
  let newAxes := axes.filter fun g => crit && !(w.sched.seen.axisCritical.get g)
  let w := { w with sched := { w.sched with seen := { w.sched.seen with
                     lampCritical := lamps.foldl (fun t g => t.set g crit) w.sched.seen.lampCritical,
                     axisCritical := axes.foldl (fun t g => t.set g crit) w.sched.seen.axisCritical } } }
  let w := w.evaluate fun r => lamps.any (usesLamps r) || axes.any (usesAxes r)
  w.abortAll (fun r => newLamps.any (usesLamps r) || newAxes.any (usesAxes r)) .thermal

/-- The clip store fault latch is set, with the Supervisor's FAULT notice, or cleared (R128, R149). -/
def Work.clipLatchSeen (w : Work) (set : Bool) : Work :=
  let w := if set then w.note (.fault .clipStore 1 false) else w
  let w := { w with sched := { w.sched with seen := { w.sched.seen with clipFault := set } } }
  w.evaluate fun r => !r.zones.isEmpty

/-! The claims table and the scan (sections 3.3 and 3.4). -/

/-- The class of a claimed resource for an entry (R43). -/
inductive ClaimClass where | available | reclaimable | coming | blocked
  deriving DecidableEq, Repr

/-- The entry of scene `j` is that of scene `i`, or stands behind it in the queue. -/
def notAhead (q : List Entry) (i j : SceneId) : Bool :=
  ((q.dropWhile fun e => e.scene ≠ i).any fun e => e.scene == j)

/-- The class of a resource for the entry of a scene of this priority (R43). A resource with no holder that is
promised to an entry ahead is blocked: that entry claims it (R42, condition 4). -/
def Work.classOf (w : Work) (i : SceneId) (priority : Nat) (r : Resource) : ClaimClass :=
  let promised := (w.claim r).promise.any (notAhead w.sched.queue i)
  match (w.claim r).holder with
  | none => if (w.claim r).promise.isNone || promised then .available else .blocked
  | some c => match w.runningIn c with
    | some (_, x) => if x.priority < priority then .reclaimable else .blocked
    | none => if promised then .coming else .blocked

/-- None of the claims is also claimed by an entry ahead (R42, condition 4). -/
def Work.clearAhead (w : Work) (i : SceneId) (r : SceneRecord) : Bool :=
  (w.sched.queue.takeWhile fun e => e.scene ≠ i).all fun e =>
    ((w.scene e.scene).record.elim [] claimsOf).all fun x => !((claimsOf r).contains x)

/-- The lowest-numbered FREE context. -/
def Work.freeContext (w : Work) : Option CtxId := (units 8).find? fun c => (w.ctx c).isNone

/-- The entry starts (R42). -/
def Work.canStart (w : Work) (i : SceneId) (r : SceneRecord) : Bool :=
  (w.scene i).ready.overall && ((claimsOf r).all fun x => decide (w.classOf i r.priority x = .available)) && w.clearAhead i r

/-- The entry preempts (R43). -/
def Work.canPreempt (w : Work) (i : SceneId) (r : SceneRecord) : Bool :=
  let cls := w.classOf i r.priority
  (w.scene i).ready.overall && w.clearAhead i r && ((claimsOf r).all fun x => decide (cls x ≠ .blocked)) &&
    (claimsOf r).any fun x =>
      decide (cls x = .reclaimable) || (decide (cls x = .coming) && decide ((w.claim x).promise ≠ some i))

/-- An entry that loses a promise returns to WAITING with a new expiry, and all its promises are cleared (R44). -/
def Work.demote (w : Work) (j : SceneId) : Work :=
  let ms := ((w.scene j).record.elim 0 (·.waitLimit)) * 1000
  ({ w with sched := { w.sched with queue := w.sched.queue.map fun (e : Entry) =>
                         if e.scene = j then { e with preempting := false, expiry := later w.now ms } else e }
   }).clearPromises j

/-- An entry takes over the promises on its claims that stand to entries behind it (R44). -/
def Work.takeOver (w : Work) (i : SceneId) (r : SceneRecord) : Work :=
  w.each (((claimsOf r).filterMap fun x => (w.claim x).promise).filter fun j => j ≠ i) Work.demote

/-- A track of a scene as the start of the scene leaves it (R67). -/
def startTrack (cues : Table 128 (List Cue)) (now : Stamp) (d : TrackDef) : Track :=
  { defn := d, pass := 1,
    phase := match cues.get d.list with
      | [] => .done
      | q :: _ => .playing 0 now now (later now q.delta) }

/-- An entry starts its scene in a context (R45, R20). The tracks then issue what is due, in track order, before
the normal-end test. -/
def Work.start (w : Work) (i : SceneId) (r : SceneRecord) (c : CtxId) : Work :=
  let w := w.takeOver i r
  let w := { w with sched := { w.sched with queue := w.sched.queue.filter fun (e : Entry) => e.scene ≠ i } }
  let w := (w.clearPromises i).each (claimsOf r) fun w x => w.modClaim x fun _ => { holder := some c, promise := none }
  let w := w.openContributions r.lamps c r.priority
  let serial := w.sched.starts + 1
  let w := w.setCtx c (some
    { scene := i, tracks := r.tracks.map (startTrack w.cues w.now), journal := [],
      deadline := some (later w.now (r.maxRun * 1000)), returnLimit := none, serial := serial })
  let w := { w with sched := { w.sched with starts := serial }, started := w.started ++ [(i, c)] }
  let w := w.modScene i fun x =>
    { x with context := some c, started := some w.now, restUntil := none, runs := countUp x.runs }
  (w.enter i .running none).push
    ((List.range r.tracks.length).map (fun k => Task.run c k serial) ++ [.testEnd c])

/-- An entry preempts (R43, R44). -/
def Work.preempt (w : Work) (i : SceneId) (r : SceneRecord) : Work :=
  let lower := (units 8).filter fun c => (claimsOf r).any fun x =>
    decide ((w.claim x).holder = some c) && decide (w.classOf i r.priority x = .reclaimable)
  let marked := (claimsOf r).filter fun x => (w.claim x).holder.isSome || (w.claim x).promise.isSome
  let w := w.each lower fun w c => w.abortReturn c .preempted
  let w := w.takeOver i r
  let w := w.each marked fun w x => w.modClaim x fun y => { y with promise := some i }
  { w with sched := { w.sched with queue := w.sched.queue.map fun (e : Entry) =>
                        if e.scene = i then { e with preempting := true } else e } }

/-- What the scan makes of one entry: a start, a preemption, or nothing (R42, R43). -/
def Work.tryEntry (w : Work) (e : Entry) : Option Work := match (w.scene e.scene).record with
  | none => none
  | some r =>
    if w.canStart e.scene r then match w.freeContext with
      | some c => some (w.start e.scene r c)
      | none => none
    else if w.canPreempt e.scene r then some (w.preempt e.scene r)
    else none

/-- The first start or preemption of a pass from the head. -/
def Work.scanStep (w : Work) : Option Work := w.sched.queue.findSome? w.tryEntry

/-- A scan runs: the mode is OPEN and no take of control is pending (R42). -/
def Work.mayScan (w : Work) : Bool := decide (w.sched.mode = .opened) && !w.sched.suspended

/-! The Track Player (sections 4.4 and 4.5). -/

/-- Changes a track of a context. -/
def Work.modTrack (w : Work) (c : CtxId) (k : Nat) (f : Track → Track) : Work :=
  w.modCtx c fun x => { x with tracks := x.tracks.modify k f }

/-- A track of a context. -/
def Work.track (w : Work) (c : CtxId) (k : Nat) : Option Track := (w.ctx c).bind fun x => x.tracks[k]?

/-- A track of a context at pass end (R71). -/
def Track.passEnd (t : Track) (cues : List Cue) (anchor passAnchor : Stamp) : Track :=
  let again : Track :=
    let a := if anchor = passAnchor then later passAnchor 1 else anchor
    { t with pass := countUp t.pass, phase := .playing 0 a a (later a (cues.head?.elim 0 (·.delta))) }
  match t.defn.mode with
  | .once => { t with phase := .done }
  | .repeated => if t.pass < t.defn.passes then again else { t with phase := .done }
  | .loop => again

/-- A track advances past record `next` from an anchor (R68, R69). -/
def Track.advance (t : Track) (cues : List Cue) (next : Nat) (anchor passAnchor : Stamp) : Track :=
  match cues[next + 1]? with
  | some q => { t with phase := .playing (next + 1) anchor passAnchor (later anchor q.delta) }
  | none => t.passEnd cues anchor passAnchor

/-- A track of a context advances; it goes on issuing what is due, or is reported DONE (R69, R71). -/
def Work.advance (w : Work) (c : CtxId) (k : Nat) (next : Nat) (anchor passAnchor : Stamp) : Work :=
  match w.ctx c, w.track c k with
  | some x, some t =>
    let t' := t.advance (w.cues.get t.defn.list) next anchor passAnchor
    (w.modTrack c k fun _ => t').push [if t'.phase = .done then .testEnd c else .run c k x.serial]
  | _, _ => w

/-- What a WAIT cue awaits (R70). -/
def cueAwaits (q : Cue) : Option Awaited := if q.wait then match q.act with
    | .axis a _ _ => some (.axis a)
    | .narrate z clip _ => some (.clip z clip)
    | _ => none
  else none

/-- A record is handed to its block by track `x` of scene `i`, with the track if WAIT is set (R72, R73). -/
def Work.handOver (arrive : Work → SceneId → Source → Work) (w : Work) (x : TrackRef) (i : SceneId) (t : Track)
    (offset : Nat) (q : Cue) : Work :=
  let c := x.ctx
  let waiter := if q.wait then some x else none
  match q.act with
  | .lamp first last level fade => w.lampCue c first last level fade
  | .axis a speed target => w.axisCue c i a speed target waiter
  | .narrate z clip attenuation => w.narrateCue c i waiter z clip attenuation q.cut q.occupiedOnly
  | .ambience z attenuation ramp => w.ambienceCue z attenuation ramp
  | .mark n => w.note (.mark i c (x.track + 1) t.pass offset n)
  | .request j => arrive w j (.chain i)

/-- A PLAYING track issues its next record if it is due (R69). A hand-over that stopped the track leaves it
stopped. -/
def Work.issue (arrive : Work → SceneId → Source → Work) (w : Work) (c : CtxId) (k : Nat) (serial : Nat) : Work :=
  match w.ctx c, w.track c k with
  | some x, some t => match t.phase with
    | .playing next _ passAnchor due =>
      if x.serial ≠ serial ∨ !reached w.now due then w
      else match (w.cues.get t.defn.list)[next]? with
        | none => (w.modTrack c k fun t => { t with phase := .done }).push [.testEnd c]
        | some q =>
          let w := w.handOver arrive { ctx := c, track := k, serial := serial } x.scene t next q
          if (w.ctx c).map (·.serial) = some serial ∧ (w.track c k).map (·.phase) = some t.phase then
            match cueAwaits q with
            | some on => w.modTrack c k fun t => { t with phase := .waiting next due passAnchor on }
            | none => w.advance c k next due passAnchor
          else w
    | _ => w
  | _, _ => w

/-- A completion is reported to a track; one that does not await it, or that its scene has left, discards it
(R70, R75). -/
def Work.complete (w : Work) (x : TrackRef) (on : Awaited) : Work := match w.track x.ctx x.track with
  | none => w
  | some t => match t.phase with
    | .waiting issued _ passAnchor awaited =>
      if awaited = on ∧ (w.ctx x.ctx).map (·.serial) = some x.serial then w.advance x.ctx x.track issued w.now passAnchor
      else w
    | _ => w

/-! The order of one event. -/

/-- Takes one report. -/
def Work.take (arrive : Work → SceneId → Source → Work) (w : Work) : Task → Work
  | .run c k serial => w.issue arrive c k serial
  | .complete x on => w.complete x on
  | .testEnd c => w.testEnd c
  | .axisReady a => w.evaluate fun r => r.axes.contains a
  | .axisFaulted a => (w.holderOf a).elim w fun c => w.abortReturn c .fault
  | .axisRest a => (w.holderOf a).elim w w.testEnd
  | .returnEnd a c arrived => w.endEntry a c arrived
  | .zoneSilent z => ((w.claim (.zone z)).holder).elim w w.testEnd
  | .clipLatch set => w.clipLatchSeen set

/-- The serial of what occupies a context. -/
def Work.serial (w : Work) (c : CtxId) : Option Nat := (w.ctx c).map (·.serial)

/-- A report still has its addressee: the context it names holds what it held. -/
def Task.stands (t : Task) (before after : Work) : Bool := match t with
  | .testEnd c => decide (before.serial c = after.serial c)
  | .returnEnd _ c _ => decide (before.serial c = after.serial c)
  | _ => true

/-- The steps that a chain of one event may still take. -/
inductive Steps where
  | spent
  | more (rest : Steps)

/-- `n` steps more than these. -/
def Steps.plus : Nat → Steps → Steps
  | 0, m => m
  | n + 1, m => .more (Steps.plus n m)

/-- `k` times `n` steps more than these. -/
def Steps.plusTimes (n : Nat) : Nat → Steps → Steps
  | 0, m => m
  | k + 1, m => .plus n (Steps.plusTimes n k m)

/-- The number of steps after which a chain of one event that has no end is broken off: 1,048,576 and a free number of
further ones (assumption log 7). -/
def eventBound : Steps := .plusTimes 1024 1024 (.plus Sys2Proof.Config.chainSteps .spent)

/-- Takes every report, those a report gives rise to before the others that wait. `n` bounds the number of
reports taken: those left over are dropped (assumption log 7). -/
def Work.drain (arrive : Work → SceneId → Source → Work) : Steps → Work → Work
  | .spent, w => { w with tasks := [] }
  | .more n, w => match w.tasks with
    | [] => w
    | t :: rest =>
      let w' := Work.take arrive { w with tasks := [] } t
      Work.drain arrive n { w' with tasks := w'.tasks ++ rest.filter fun x => x.stands w w' }

/-- The dispatch scan: it begins again from the head after every start and every preemption, once the reports
of that step are taken, and ends with a pass that makes none (R42). An arrival within it runs no scan of its
own. A scan that does not end is broken off after `n` steps (assumption log 7). -/
def Work.scan : Steps → Work → Work
  | .spent, w => w
  | .more n, w => match w.scanStep with
    | some w' => Work.scan n (w'.drain Work.arrivePlace eventBound)
    | none => w

/-- The WAITING entries of scenes with wait limit 0 (R40). -/
def Work.triedOnce (w : Work) : List Entry := w.sched.queue.filter fun (e : Entry) =>
  !e.preempting && (w.scene e.scene).record.any fun r => decide (r.waitLimit = 0)

/-- Ends an event: the reports are taken, a scan that is called for is run, and an entry with wait limit 0 that
it has not started is removed in the same event (R40, R42). An event that does not end is broken off after `n` rounds
(assumption log 7). -/
def Work.settleWith (arrive : Work → SceneId → Source → Work) : Steps → Work → Work
  | .spent, w => { w with tasks := [], owed := false }
  | .more n, w =>
    let w := w.drain arrive eventBound
    let w := if w.owed && w.mayScan then w.scan eventBound else w
    let w := { w with owed := false }
    if w.triedOnce.isEmpty then w
    else Work.settleWith arrive n (w.each w.triedOnce fun w e => w.dropEntry e .expired .idle)

/-- An arrival that runs its scan at once, before the reports that still wait (R37, R38). -/
def Work.arrive (w : Work) (i : SceneId) (source : Source) : Work :=
  let placed := decide (w.arrival i = .placed)
  let w' := w.arrivePlace i source
  if placed then
    let w'' := Work.settleWith Work.arrivePlace eventBound { w' with tasks := [] }
    { w'' with tasks := w''.tasks ++ w.tasks.filter fun x => x.stands w w'' }
  else w'

/-- Ends an event in which no scan is running. -/
def Work.settle (w : Work) : Work := w.settleWith Work.arrive eventBound

/-- Runs the part of an event that the Scheduler and the blocks about it take together. -/
def State.run (s : State) (f : Work → Work) : State := s.commit (f s.work).settle

end Sys2Proof.Machine
end

