-- ==== Sys2Proof/Machine/Links.lean ====
section
/-! DEFINITION. The two link ports and the flash's arbiter: replies and the transmitters (sections 10.2 and
10.4), the taking of a frame and the checks of a request (10.2 and 10.3), who holds the flash (R127, R171), and
the end of every event. -/

namespace Sys2Proof.Machine

/-! Ports. -/

/-- A port. -/
def Link.port (l : Link) : Port → PortState
  | .showLink => l.showPort
  | .serviceLink => l.servicePort

/-- Changes a port. -/
def Link.modPort (l : Link) (p : Port) (f : PortState → PortState) : Link := match p with
  | .showLink => { l with showPort := f l.showPort }
  | .serviceLink => { l with servicePort := f l.servicePort }

/-- Changes a port of the part. -/
def State.modPort (s : State) (p : Port) (f : PortState → PortState) : State := { s with link := s.link.modPort p f }

/-- A port of the part. -/
def State.port (s : State) (p : Port) : PortState := s.link.port p

/-- Places a reply in a port's reply slot (R162). -/
def State.reply (s : State) (p : Port) (kind : Byte) (code : ReplyCode) (body : ReplyBody) : State :=
  s.modPort p fun x => { x with replies := x.replies ++ [{ kind := kind, code := code, body := body }] }

/-- Answers the request pending on a port: its reply is placed, and it is pending no more (R161). Where no request
is pending there is nothing to answer. -/
def State.answer (s : State) (p : Port) (kind : Byte) (code : ReplyCode) (body : ReplyBody) : State :=
  s.modPort p fun x =>
    if x.pending.isSome then
      { x with replies := x.replies ++ [{ kind := kind, code := code, body := body }], pending := none }
    else x

/-- An IDLE transmitter starts the port's oldest reply, or on the show link the oldest notice with the missed
count (R164, R165). -/
def Link.startSending (l : Link) (p : Port) : Link :=
  if (l.port p).transmitter = .idle then
    match (l.port p).replies, p, l.outbox with
    | r :: rest, _, _ => l.modPort p fun x => { x with replies := rest, transmitter := .reply r }
    | [], .showLink, n :: rest =>
      { l.modPort .showLink fun x => { x with transmitter := .notice n l.missed } with outbox := rest, missed := 0 }
    | [], _, _ => l
  else l

/-- The missed and placed notices of an event that no working record carries. -/
def State.note (s : State) (b : NoticeBody) : State := { s with link := s.link.place ⟨s.now, b⟩ }

/-! The flash (R127, R128, R171). -/

/-- The next buffer with an EMPTY slot in cyclic order after the one last served, that slot, and the block of
the clip region it needs (R127). -/
def Mixer.nextRead (m : Mixer) : Option (Fin 8 × Nat × Nat) :=
  (List.range 8).findSome? fun i =>
    let b : Fin 8 := m.lastServed + 1 + Fin.ofNat 8 i
    match m.buffer b with
    | none => none
    | some x => match x.emptySlot with
      | none => none
      | some j => (x.slots[j]?.bind (·.block)).map fun k => (b, j, x.startBlock + k)

/-- The Clip Reader issues its next read: an owed probe, or the next slot (R127, R128). -/
def Mixer.issueRead (m : Mixer) (now : Stamp) : Mixer :=
  if m.probeOwed then { m with probeOwed := false, read := some { issued := now, target := .probe, block := 0 } }
  else match m.nextRead with
    | some (b, i, k) =>
      { m.modBuffer b (·.fill i .reading) with
        read := some { issued := now, target := .slot b (some i), block := k }, lastServed := b }
    | none => m

/-- The Show Store's oldest waiting operation takes the flash; a STORE SHOW's first stage erases the image's
length field and CRC, and a clip write begins (R171, R172). -/
def Store.begin (t : Store) (now : Stamp) : Store := match t.queued with
  | [] => t
  | u :: rest =>
    let t := { t with held := some u, queued := rest }
    match u with
    | .store => { t with image := { t.image with lengthField := none, crcField := none } }
    | .clipWrite => { t with writes := t.writes.modify 0 fun x => { x with began := some now } }
    | .image => t

/-- With the flash free, a waiting operation of the Show Store takes it, or else the Clip Reader reads (R127, R171).
The Show Store's operations take it in the order they were asked for, and one of them before a probe that is owed
(R128): the manual gives no order among those that wait at a release, and this one is the model's choice (assumption
log 42). -/
def State.arbitrate (s : State) : State :=
  if s.store.held.isSome || s.mixer.read.isSome then s
  else match s.store.queued with
    | _ :: _ => { s with store := s.store.begin s.now }
    | [] => { s with mixer := s.mixer.issueRead s.now }

/-- The end of every event: the flash goes to who waits for it, and idle transmitters start to send. -/
def State.settled (s : State) : State :=
  let s := s.arbitrate
  { s with link := (s.link.startSending .showLink).startSending .serviceLink }

/-- What an event answers: the state it leaves, at its end. -/
def done (s : State) : Host.Outcome State Fault Refusal := .next s.settled

/-- An event of the Scheduler and the blocks about it. -/
def State.event (s : State) (f : Work → Work) : Host.Outcome State Fault Refusal := done (s.run f)

/-- An event that is not due: nothing happens (assumption log 9). -/
def notDue (s : State) : Host.Outcome State Fault Refusal := .next s

/-! Frames and requests (sections 10.2 and 10.3). -/

/-- The kind byte of the reply to a kind: the kind plus 80h (R177). For a frame of kind 80h or above, which can be
answered BUSY, the sum does not fit a byte: that it is taken modulo 256 is the model's choice (assumption log 38). -/
def replyKind (kind : Nat) : Byte := BitVec.ofNat 8 (kind + 128)

/-- A complete frame with a good check on the service link restarts a running silence timer (R166). -/
def State.heard (s : State) (p : Port) : State :=
  if p = .serviceLink ∧ s.owner.silence.isSome then
    { s with owner := { s.owner with silence := some (later s.now 60000) } }
  else s

/-- Requests of a port are answered BUSY: loading (but for QUERY STATUS), a pending request, or an accepted
RESTART (R161). The worked example of section 11.3 carries out an ENABLE SCENE of the show computer while its own STORE
SHOW is pending: that the numbered rule holds, and such a request is answered BUSY, is the model's choice (assumption
log 39). -/
def State.portBusy (s : State) (p : Port) (status : Bool) : Bool :=
  (decide (s.store.load = .loading) && !status) || (s.port p).pending.isSome || s.link.restarting.isSome

/-- A complete frame with a good check is taken: discarded while three replies wait (R162), answered BUSY
(R161), or decided by `decision`. -/
def State.takeFrame (s : State) (p : Port) (kind : Nat) (status : Bool)
    (decision : State → Host.Outcome State Fault Refusal) : Host.Outcome State Fault Refusal :=
  let s := s.heard p
  if 3 ≤ (s.port p).replies.length then done s
  else if s.portBusy p status then done (s.reply p (replyKind kind) .busy .empty)
  else decision s

/-- What a request that passed the general checks comes to: a reply in its event, or a request held pending. -/
inductive Taken where
  | reply (s : State) (code : ReplyCode) (body : ReplyBody)
  | hold (s : State) (pending : Pending)

/-- A request refused with no body: nothing is changed. -/
def Taken.refuse (s : State) (code : ReplyCode) : Taken := .reply s code .empty

/-- DONE, or ADJUSTED where a setting was clamped. -/
def doneOr (adjusted : Bool) : ReplyCode := if adjusted then .adjusted else .done

/-- The general checks a request is subject to (R163). -/
structure Gate where
  length : Bool
  control : Bool
  mode : Mode → Option ReplyCode
  store : Bool

/-- A request that every check lets through but that of its length. -/
def Gate.free : Gate := { length := true, control := false, mode := fun _ => none, store := false }

/-- A query (R163). -/
def Gate.query : Gate := Gate.free

/-- A request that needs control, in every mode (R163). -/
def Gate.owned : Gate := { length := true, control := true, mode := fun _ => none, store := false }

/-- The modes of a define request (R163). -/
def defineMode : Mode → Option ReplyCode
  | .closed => none
  | .service => none
  | .opened => some .wrongMode
  | .standstill => some .wrongMode

/-- A define request (R163). -/
def Gate.define : Gate := { length := true, control := true, mode := defineMode, store := true }

/-- The control check (R163, check 3). -/
def State.controlRefusal (s : State) (p : Port) : Option ReplyCode :=
  if s.owner.owner = p then none else match p with
    | .showLink => some .serviceHolds
    | .serviceLink => some .notOwner

/-- The first general check that refuses a request (R163, checks 2 to 5). -/
def State.gate (s : State) (p : Port) (lengthOk : Bool) (g : Gate) : Option ReplyCode :=
  if g.length ∧ !lengthOk then some .badBody
  else match (if g.control then s.controlRefusal p else none) with
    | some c => some c
    | none => match g.mode s.sched.mode with
      | some c => some c
      | none => if g.store ∧ s.store.job.isSome then some .busy else none

/-- What a taken request answers on its port. -/
def Taken.outcome (t : Taken) (p : Port) (kind : Nat) : Host.Outcome State Fault Refusal := match t with
  | .reply s code body => done (s.reply p (replyKind kind) code body)
  | .hold s pending => done (s.modPort p fun x => { x with pending := some pending })

/-- A request of a kind: the frame is taken, the general checks are made, and then its own rule decides. -/
def State.request (s : State) (h : FrameHead) (kind : Nat) (g : Gate) (own : State → Taken) :
    Host.Outcome State Fault Refusal :=
  s.takeFrame h.port kind (kind == 1) fun s => match s.gate h.port h.lengthOk g with
    | some c => (Taken.refuse s c).outcome h.port kind
    | none => (own s).outcome h.port kind

/-! Request kinds (section 12.2). -/

/-- The kinds a link recognises as requests (section 12.2, R177). -/
def isRequestKind (p : Port) (kind : Nat) : Bool :=
  (decide (0x01 ≤ kind) && decide (kind ≤ 0x0B)) || (decide (0x10 ≤ kind) && decide (kind ≤ 0x1E)) ||
    (decide (0x20 ≤ kind) && decide (kind ≤ 0x2E)) || (decide (0x30 ≤ kind) && decide (kind ≤ 0x32)) ||
    (decide (p = .serviceLink) && (decide (kind = 0x38) || decide (kind = 0x39)))

end Sys2Proof.Machine
end

