-- ==== Sys2Proof/Machine/Scenes.lean ====
section
/-! DEFINITION. The commands of the Scene Scheduler and the Track Player (chapters 2 to 4): the scene and cue-list
requests, the show mode requests, and the Scheduler's timers and deliveries. -/

namespace Sys2Proof.Machine

/-- The first element that meets a condition, and the list without it. -/
def takeFirst (p : α → Bool) : List α → Option (α × List α)
  | [] => none
  | x :: rest => if p x then some (x, rest) else (takeFirst p rest).map fun r => (r.1, x :: r.2)

/-- The oldest change of a floor zone on its way to a block, and the others; none while the change that it follows is
still on its way (R14, R15). -/
def takeZone (z : FloorZone) (l : List ZoneChange) : Option (ZoneChange × List ZoneChange) :=
  (takeFirst (fun x : ZoneChange => decide (x.zone = z)) l).filter fun r =>
    !(l.takeWhile fun x => decide (x.zone ≠ z)).any fun x => decide (r.1.follows = some x.zone)

/-! Editing scenes and cue lists (sections 2.7 and 4.3). -/

/-- A scene has business in progress: it is QUEUED, RUNNING or RETURNING (R32). -/
def engaged : SceneState → Bool
  | .queued => true
  | .running => true
  | .returning => true
  | .off => false
  | .idle => false
  | .resting => false

/-- An accepted DEFINE SCENE (R34). -/
def Work.defineScene (w : Work) (i : SceneId) (r : Option SceneRecord) : Work :=
  let on := r.any (·.enabled)
  let w := w.modScene i fun x => { x with record := r, restUntil := if on then x.restUntil else none }
  let w := w.evaluateScene i
  if on then (if (w.scene i).state = .off then w.enter i .idle none else w) else w.enter i .off none

/-- DEFINE SCENE (R32 to R34). -/
def execDefineScene (h : FrameHead) (b : SceneBody) (s : State) : Host.Outcome State Fault Refusal :=
  s.request h 0x12 Gate.define fun s => match sceneOf b with
    | none => .refuse s .badBody
    | some (i, r, adjusted) =>
      if engaged (s.sched.scenes.get i).state then .refuse s .inUse
      else match r.bind (sceneFails s.cues) with
        | some (k, offset) => .reply s .badBody (.badTrack k offset)
        | none => .reply (s.run fun w => w.defineScene i r) (doneOr adjusted) .empty

/-- A list at a new length (R61). -/
def resized (cues : List Cue) (length : Nat) : List Cue :=
  cues.take length ++ List.replicate (length - cues.length) blankCue

/-- SIZE CUE LIST (R61, R62). -/
def execSizeCueList (h : FrameHead) (list length : Nat) (s : State) : Host.Outcome State Fault Refusal :=
  s.request h 0x13 Gate.define fun s => match unit? 128 list with
    | none => .refuse s .badBody
    | some l =>
      let n := min 512 length
      let cues := s.cues.get l
      let lists := s.cues.set l (resized cues n)
      if listInUse s.sched.scenes l then .refuse s .inUse
      else match listBreaks s.sched.scenes lists l with
        | some (i, k, offset) => .reply s .badBody (.badUse i k offset)
        | none =>
          if cuesFree s.cues < n - cues.length then .refuse s .noRoom
          else .reply { s with cues := lists } (doneOr (decide (512 < length))) (.listSize n (cuesFree lists))

/-- The records of a WRITE CUES as cue memory keeps them, or the first that failed (R63, R64). -/
def cuesOf : List CueBody → Nat → Sum Nat (List (Cue × Bool))
  | [], _ => .inr []
  | b :: rest, k => match cueOf b with
    | none => .inl k
    | some q => match cuesOf rest (k + 1) with
      | .inl j => .inl j
      | .inr qs => .inr (q :: qs)

/-- WRITE CUES (R62 to R65), whose own rule orders its checks. -/
def execWriteCues (h : FrameHead) (list offset count : Nat) (records : List CueBody) (s : State) :
    Host.Outcome State Fault Refusal :=
  s.request h 0x14 { Gate.define with length := false } fun s => match unit? 128 list with
    | none => .refuse s .badBody
    | some l =>
      let cues := s.cues.get l
      if cues = [] then .refuse s .notDefined
      else if !within 1 24 count ∨ !h.lengthOk ∨ records.length ≠ count ∨ cues.length < offset + count then .refuse s .badBody
      else match cuesOf records offset with
        | .inl k => .reply s .badBody (.badRecord k)
        | .inr qs =>
          let lists := s.cues.set l (cues.take offset ++ qs.map (·.1) ++ cues.drop (offset + count))
          if listInUse s.sched.scenes l then .refuse s .inUse
          else match listBreaks s.sched.scenes lists l with
            | some (i, k, at') => .reply s .badBody (.badUse i k at')
            | none => .reply { s with cues := lists } (doneOr (qs.any (·.2))) (.cuesWritten l offset count)

/-- ENABLE SCENE (R35). -/
def execEnableScene (h : FrameHead) (scene : Nat) (s : State) : Host.Outcome State Fault Refusal :=
  s.request h 0x25 Gate.owned fun s => match unit? 64 scene with
    | none => .refuse s .badBody
    | some i => match (s.sched.scenes.get i).record with
      | none => .refuse s .notDefined
      | some r =>
        .reply (s.run fun w =>
          let w := w.modScene i fun x => { x with record := some { r with enabled := true } }
          if (w.scene i).state = .off then (w.enter i .idle none).evaluateScene i else w) .done .empty

/-- A scene is made OFF: its enabled flag is cleared, its entry removed or its rest ended (R18, R35). -/
def Work.disable (w : Work) (i : SceneId) (r : SceneRecord) : Work :=
  let w := w.modScene i fun x => { x with record := some { r with enabled := false }, restUntil := none }
  let w := match w.sched.queue.find? fun e => decide (e.scene = i) with
    | some e => w.dropEntry e .disabled .off
    | none => w.enter i .off none
  w.evaluateScene i

/-- DISABLE SCENE (R35). -/
def execDisableScene (h : FrameHead) (scene : Nat) (s : State) : Host.Outcome State Fault Refusal :=
  s.request h 0x26 Gate.owned fun s => match unit? 64 scene with
    | none => .refuse s .badBody
    | some i => match (s.sched.scenes.get i).record, (s.sched.scenes.get i).state with
      | none, _ => .refuse s .notDefined
      | some _, .running => .refuse s .inUse
      | some _, .returning => .refuse s .inUse
      | some r, _ => .reply (s.run fun w => w.disable i r) .done .empty

/-! The show mode (section 3.8). -/

/-- The modes of OPEN SHOW and CLOSE SHOW (R54, R163). -/
def showMode : Mode → Option ReplyCode
  | .closed => none
  | .opened => none
  | .service => some .wrongMode
  | .standstill => some .wrongMode

/-- The show opens, if it is CLOSED (R54). -/
def Work.openShow (w : Work) (cause : ModeCause) : Work :=
  if w.sched.mode = .closed then w.setMode .opened cause else w

/-- The show closes, if it is OPEN, and the queue is flushed; with NOW every RUNNING scene is aborted (R54). -/
def Work.closeShow (w : Work) (now : Bool) (cause : ModeCause) : Work :=
  let w := if w.sched.mode = .opened then (w.setMode .closed cause).flush .closed else w
  if now then w.abortAll (fun _ => true) .closed else w

/-- A mode that the timetable asks for is written where SERVICE and STANDSTILL keep the mode to restore (R54). -/
def Scheduler.later (s : Scheduler) (m : Mode) : Scheduler :=
  if s.mode = .standstill ∧ s.returnMode ≠ .service then { s with returnMode := m } else { s with serviceReturn := m }

/-- A timetable entry's action is handed to the Scheduler (R54, R157). -/
def Work.timetable (w : Work) (e : EntryId) : TimetableAction → Work
  | .openShow => match w.sched.mode with
    | .closed => w.openShow .timetable
    | .opened => w
    | _ => { w with sched := w.sched.later .opened }
  | .closeShow => match w.sched.mode with
    | .closed => w
    | .opened => w.closeShow false .timetable
    | _ => { w with sched := w.sched.later .closed }
  | .start i => w.arrive i (.timetable e)

/-- OPEN SHOW (R54). -/
def execOpenShow (h : FrameHead) (s : State) : Host.Outcome State Fault Refusal :=
  s.request h 0x20 { Gate.owned with mode := showMode } fun s =>
    .reply (s.run fun w => w.openShow .openShow) .done .empty

/-- CLOSE SHOW (R54). -/
def execCloseShow (h : FrameHead) (form : Nat) (s : State) : Host.Outcome State Fault Refusal :=
  s.request h 0x21 { Gate.owned with mode := showMode } fun s => match flag? form with
    | none => .refuse s .badBody
    | some now => .reply (s.run fun w => w.closeShow now .closeShow) .done .empty

/-- RESUME SHOW, whose own rule orders its checks (R55). The Resume is delivered to the Lighting Engine and the
Mixer; it changes no axis (R119). A scene that the RESUME SHOW's own scan starts opens its contributions in this event,
and so before the Lighting Engine takes the Resume in its own (R95): that order is the model's choice (assumption log
41). -/
def execResumeShow (h : FrameHead) (s : State) : Host.Outcome State Fault Refusal :=
  s.request h 0x22 Gate.free fun s =>
    if s.sched.mode ≠ .standstill then .refuse s .wrongMode
    else match s.controlRefusal h.port with
      | some c => .refuse s c
      | none =>
        if s.supervisor.estop.active then .refuse s .estopActive
        else
          let s := { s with delivery := { s.delivery with stopLighting := s.delivery.stopLighting ++ [StopMessage.resume],
                                                          stopMixer := s.delivery.stopMixer ++ [StopMessage.resume] } }
          .reply (s.run fun w => w.setMode w.sched.returnMode .resume) .done .empty

/-- ESTOP_ON_SCHEDULER: the return mode is recorded, the mode becomes STANDSTILL, every context is halted in
ascending order and the queue is flushed (R55). -/
def execEstopOnScheduler (s : State) : Host.Outcome State Fault Refusal := match s.delivery.stopScheduler with
  | .on :: rest =>
    let s := { s with delivery := { s.delivery with stopScheduler := rest } }
    s.event fun w =>
      let w := if w.sched.mode = .standstill then w
               else Work.setMode { w with sched := { w.sched with returnMode := w.sched.mode } } .standstill .estop
      (w.each (units 8) fun w c => w.abortHalt c .estop).flush .estop
  | _ => notDue s

/-! Requests for scenes (section 3.9). -/

/-- The refusal of a link request by the Scheduler (R37, R39); a placed one is not refused. -/
def linkRefusal (p : Port) : Arrival → Option ReplyCode
  | .estop => some .estopActive
  | .service => some (if p = .showLink then .serviceHolds else .wrongMode)
  | .closed => some .wrongMode
  | .off => some .notDefined
  | .absorbed => some .absorbed
  | .full => some .queueFull
  | .placed => none

/-- The outcome of a START SCENE at the end of its event (R57). The rule names no outcome for an entry with a wait
limit that the requests of a scene started by the same scan displace; the model answers EXPIRED for it (assumption
log 35). -/
def Work.startOutcome (w : Work) (i : SceneId) : StartOutcome :=
  match w.started.find? fun x => decide (x.1 = i) with
  | some (_, c) => .started c
  | none => match w.sched.queue.findIdx? fun e => decide (e.scene = i) with
    | some k => .queued ((w.sched.queue[k]?).any (·.preempting)) (k + 1)
    | none => .expired

/-- The checks START SCENE makes before it reaches the Scheduler (R57). -/
def State.startRefusal (s : State) (p : Port) : Option ReplyCode :=
  if s.sched.mode = .standstill then some .estopActive
  else match p with
    | .showLink => if s.owner.owner = .serviceLink ∨ s.owner.take.isSome then some .serviceHolds else none
    | .serviceLink => if s.owner.owner = .serviceLink then none else some .notOwner

/-- The source of a link's request. -/
def linkSource : Port → Source
  | .showLink => .showLink
  | .serviceLink => .serviceLink

/-- START SCENE (R37, R57). -/
def execStartScene (h : FrameHead) (scene : Nat) (s : State) : Host.Outcome State Fault Refusal :=
  s.request h 0x23 Gate.free fun s => match unit? 64 scene with
    | none => .refuse s .badBody
    | some i => match s.startRefusal h.port with
      | some c => .refuse s c
      | none => match linkRefusal h.port (s.work.arrival i) with
        | some c => .refuse s c
        | none =>
          let w := (s.work.arrive i (linkSource h.port)).settle
          .reply (s.commit w) .done (.start (w.startOutcome i))

/-- STOP SCENE (R58). -/
def execStopScene (h : FrameHead) (scene form : Nat) (s : State) : Host.Outcome State Fault Refusal :=
  s.request h 0x24 Gate.owned fun s => match unit? 64 scene, flag? form with
    | some i, some halt =>
      let x := s.sched.scenes.get i
      if x.record.isNone then .refuse s .notDefined
      else match x.state with
        | .off => .refuse s .absorbed
        | .idle => .refuse s .absorbed
        | .resting => .refuse s .absorbed
        | .returning => .refuse s .inUse
        | .queued =>
          .reply (s.run fun w => w.each (w.sched.queue.filter fun e => decide (e.scene = i)) fun w e =>
            w.dropEntry e .stopped .idle) .done .empty
        | .running =>
          .reply (s.run fun w => x.context.elim w fun c =>
            if halt then w.abortHalt c .stopped else w.abortReturn c .stopped) .done .empty
    | _, _ => .refuse s .badBody

/-! Timers and deliveries. -/

/-- ZONE_CHANGE_SCHEDULER: the Scheduler takes the oldest change of a floor zone delivered to it (R15, R26). -/
def execZoneChangeScheduler (z : FloorZone) (s : State) : Host.Outcome State Fault Refusal :=
  match takeZone z s.delivery.zoneScheduler with
  | none => notDue s
  | some (x, rest) =>
    let s := { s with delivery := { s.delivery with zoneScheduler := rest } }
    s.event fun w => w.zoneToScheduler z (zoneOccupied x.state)

/-- ENTRY_EXPIRY: a WAITING entry reaches its expiry stamp (R40). -/
def execEntryExpiry (scene : SceneId) (s : State) : Host.Outcome State Fault Refusal :=
  match s.sched.queue.find? fun e => decide (e.scene = scene) with
  | none => notDue s
  | some e =>
    if e.preempting || !reached s.now e.expiry then notDue s
    else s.event fun w => w.dropEntry e .expired .idle

/-- The run time of a context's timer has come. -/
def State.ctxDue (s : State) (c : CtxId) (f : Context → Option Stamp) : Bool :=
  (s.sched.contexts.get c).any fun x => expired s.now (f x)

/-- DEADLINE_EXPIRY: a RUNNING scene's deadline expires, and it is aborted with cause TIMEOUT (R48). -/
def execDeadlineExpiry (c : CtxId) (s : State) : Host.Outcome State Fault Refusal :=
  if s.ctxDue c (·.deadline) then s.event fun w => w.abortReturn c .timeout else notDue s

/-- RETURN_LIMIT_EXPIRY: a RETURNING context's return limit expires (R51). -/
def execReturnLimitExpiry (c : CtxId) (s : State) : Host.Outcome State Fault Refusal :=
  if s.ctxDue c (·.returnLimit) then s.event fun w => w.returnLimit c else notDue s

/-- REST_EXPIRY: a scene's rest timer expires and it becomes IDLE (R23). -/
def execRestExpiry (scene : SceneId) (s : State) : Host.Outcome State Fault Refusal :=
  let x := s.sched.scenes.get scene
  if x.state = .resting ∧ expired s.now x.restUntil then
    s.event fun w => ((w.modScene scene fun x => { x with restUntil := none }).enter scene .idle none).evaluateScene scene
  else notDue s

/-- CUE_ISSUE: a PLAYING track's due time is reached; it issues its next record and those that are then due
(R69). Tracks are numbered from 1. -/
def execCueIssue (c : CtxId) (track : Nat) (s : State) : Host.Outcome State Fault Refusal :=
  match s.sched.contexts.get c, s.work.track c (track - 1) with
  | some x, some t => match t.phase with
    | .playing _ _ _ due =>
      if 1 ≤ track ∧ reached s.now due then s.event fun w => w.push [.run c (track - 1) x.serial] else notDue s
    | _ => notDue s
  | _, _ => notDue s

end Sys2Proof.Machine
end

