-- ==== Sys2Proof/Machine/Thermals.lean ====
section
/-! DEFINITION. Thermal deliveries (R143, R144): what a change of a sensor's state, or of a group's binding, does at
the Lighting Engine, the Motion Controller and the Scheduler. -/

namespace Sys2Proof.Machine

/-- Lamp groups take a thermal state and derate percent (R92). -/
def Work.heatLamps (w : Work) (groups : List LampGroup) (state : Thermal) (derate : Nat) : Work :=
  w.each groups fun w g => w.lampThermal g state derate

/-- Axis groups take a thermal state and derate percent (R116, R117). -/
def Work.heatAxes (w : Work) (groups : List AxisGroup) (state : Thermal) (derate : Nat) : Work :=
  w.each groups fun w g => w.axisThermal g state derate

/-- The deliveries of thermal changes that are under way are taken, oldest first: a define that changes a
binding or a sensor comes after them (assumption log 13). -/
def State.takeThermals (s : State) (w : Work) : Work :=
  let v := s.supervisor
  let w := w.each s.delivery.thermalLighting fun w x => w.heatLamps (lampGroupsBound s.light x.sensor) x.state x.derate
  let w := w.each s.delivery.thermalMotion fun w x => w.heatAxes (axisGroupsBound v x.sensor) x.state x.derate
  w.each s.delivery.thermalScheduler fun w x =>
    w.thermalToScheduler (lampGroupsBound s.light x.sensor) (axisGroupsBound v x.sensor) x.state

/-- No delivery of a thermal change is under way. -/
def State.noThermals (s : State) : State :=
  { s with delivery := { s.delivery with thermalLighting := [], thermalMotion := [], thermalScheduler := [] } }

/-- Lamp groups have a new state or derate delivered at once (R144). -/
def Work.rebindLamps (w : Work) (groups : List LampGroup) (state : Thermal) (derate : Nat) : Work :=
  (w.heatLamps groups state derate).thermalToScheduler groups [] state

/-- Axis groups have a new state or derate delivered at once (R144). -/
def Work.rebindAxes (w : Work) (groups : List AxisGroup) (state : Thermal) (derate : Nat) : Work :=
  (w.heatAxes groups state derate).thermalToScheduler [] groups state

/-- THERMAL_CHANGE_LIGHTING: the Lighting Engine takes the oldest change of a sensor delivered to it (R92). -/
def execThermalChangeLighting (n : Sensor) (s : State) : Host.Outcome State Fault Refusal :=
  match takeFirst (fun x : ThermalChange => decide (x.sensor = n)) s.delivery.thermalLighting with
  | none => notDue s
  | some (x, rest) =>
    let s := { s with delivery := { s.delivery with thermalLighting := rest } }
    s.event fun w => w.heatLamps (lampGroupsBound s.light n) x.state x.derate

/-- THERMAL_CHANGE_MOTION: the Motion Controller takes the oldest change of a sensor delivered to it (R116,
R117). -/
def execThermalChangeMotion (n : Sensor) (s : State) : Host.Outcome State Fault Refusal :=
  match takeFirst (fun x : ThermalChange => decide (x.sensor = n)) s.delivery.thermalMotion with
  | none => notDue s
  | some (x, rest) =>
    let s := { s with delivery := { s.delivery with thermalMotion := rest } }
    s.event fun w => w.heatAxes (axisGroupsBound s.supervisor n) x.state x.derate

/-- THERMAL_CHANGE_SCHEDULER: the Scheduler takes the oldest change of a sensor delivered to it (R26, R48). -/
def execThermalChangeScheduler (n : Sensor) (s : State) : Host.Outcome State Fault Refusal :=
  match takeFirst (fun x : ThermalChange => decide (x.sensor = n)) s.delivery.thermalScheduler with
  | none => notDue s
  | some (x, rest) =>
    let s := { s with delivery := { s.delivery with thermalScheduler := rest } }
    s.event fun w => w.thermalToScheduler (lampGroupsBound s.light n) (axisGroupsBound s.supervisor n) x.state

end Sys2Proof.Machine
end

