-- ==== Sys2Proof/Machine/Lamps.lean ====
section
/-! DEFINITION. The commands of the Lighting Engine (chapter 5). -/

namespace Sys2Proof.Machine

/-- Changes a lamp channel. -/
def State.modChannel (s : State) (c : Channel) (f : ChannelState → ChannelState) : State :=
  { s with light := { s.light with channels := s.light.channels.modify c f } }

/-- Changes a lamp group. -/
def State.modLampGroup (s : State) (g : LampGroup) (f : LampGroupState → LampGroupState) : State :=
  { s with light := { s.light with groups := s.light.groups.modify g f } }

/-- DEFINE CHANNEL (R79). -/
def execDefineChannel (h : FrameHead) (b : ChannelBody) (s : State) : Host.Outcome State Fault Refusal :=
  s.request h 0x15 Gate.define fun s => match channelOf b with
    | none => .refuse s .badBody
    | some (c, d, adjusted) =>
      .reply (s.modChannel c fun x => { x with defn := d, base := .idle d.base }) (doneOr adjusted) .empty

/-- DEFINE LAMP GROUP: the definition, and what its binding changes is delivered at once (R80, R144). -/
def execDefineLampGroup (h : FrameHead) (b : LampGroupBody) (s : State) : Host.Outcome State Fault Refusal :=
  s.request h 0x16 Gate.define fun s => match lampGroupOf b with
    | none => .refuse s .badBody
    | some (g, d, adjusted) =>
      let old := boundThermal s.supervisor.sensors (s.light.groups.get g).defn.sensor
      let new := boundThermal s.supervisor.sensors d.sensor
      .reply (s.noThermals.run fun w =>
        let w := s.takeThermals w
        let w := { w with light := { w.light with groups := w.light.groups.modify g fun x => { x with defn := d } } }
        if old = new then w else w.rebindLamps [g] new.1 new.2) (doneOr adjusted) .empty

/-- The modes of SET MASTER and SET BASE (R81, R163). -/
def settingMode : Mode → Option ReplyCode
  | .standstill => some .wrongMode
  | .closed => none
  | .opened => none
  | .service => none

/-- SET MASTER (R81). -/
def execSetMaster (h : FrameHead) (group level : Nat) (s : State) : Host.Outcome State Fault Refusal :=
  s.request h 0x2B { Gate.owned with mode := settingMode, store := true } fun s => match unit? 6 group with
    | none => .refuse s .badBody
    | some g =>
      .reply (s.modLampGroup g fun x => { x with defn := { x.defn with master := min 1000 level } })
        (doneOr (decide (1000 < level))) .empty

/-- The channels of a range, in ascending order; none where an end is out of range or the first is above the
last (R82, R96). -/
def channelRange (first last : Nat) : Option (List Channel) := match unit? 48 first, unit? 48 last with
  | some a, some b => if b < a then none else some ((units 48).filter fun c => decide (a ≤ c ∧ c ≤ b))
  | _, _ => none

/-- A channel under a new base fade (R82). -/
def ChannelState.setBase (c : ChannelState) (now : Stamp) (level fade : Nat) : ChannelState :=
  { c with base := c.base.retarget now level fade, defn := { c.defn with base := level } }

/-- SET BASE (R82). -/
def execSetBase (h : FrameHead) (first last level fade : Nat) (s : State) : Host.Outcome State Fault Refusal :=
  s.request h 0x2C { Gate.owned with mode := settingMode, store := true } fun s => match channelRange first last with
    | none => .refuse s .badBody
    | some cs =>
      .reply (cs.foldl (fun s c => s.modChannel c fun x => x.setBase s.now (min 1000 level) (min 60000 fade)) s)
        (doneOr (decide (1000 < level ∨ 60000 < fade))) .empty

/-- The checks of TEST LEVEL, JOG AXIS and PLAY CLIP, whose own rules test the mode before the control (R96, R121,
R137). -/
def State.serviceRefusal (s : State) (p : Port) : Option ReplyCode :=
  if s.sched.mode ≠ .service then some .wrongMode else s.controlRefusal p

/-- TEST LEVEL; no level clears (R96). -/
def execTestLevel (h : FrameHead) (first last : Nat) (level : Option Nat) (s : State) : Host.Outcome State Fault Refusal :=
  s.request h 0x30 Gate.free fun s => match s.serviceRefusal h.port with
    | some c => .refuse s c
    | none => match channelRange first last with
      | none => .refuse s .badBody
      | some cs =>
        .reply (cs.foldl (fun s c => s.modChannel c fun x => { x with test := level.map (min 1000) }) s)
          (doneOr (level.any fun v => decide (1000 < v))) .empty

/-- LIGHTING_FRAME: every 10 ms a frame is made (R77). -/
def execLightingFrame (s : State) : Host.Outcome State Fault Refusal := match s.light.nextFrame with
  | none => notDue s
  | some due =>
    if reached s.now due then done { s with light := { s.light.frame s.now with nextFrame := some (later due 10) } }
    else notDue s

/-- A channel whose TIMED group leaves its safe levels (R94). -/
def ChannelState.settleToBase (c : ChannelState) (now : Stamp) : ChannelState :=
  { c with levelBlend := some { start := c.defn.safe, t0 := now, toBase := true },
           masterFade := some { start := 1000, t0 := now } }

/-- TIMED_HOLD_EXPIRY: a TIMED group's hold expires and it enters BASE (R94). -/
def execTimedHoldExpiry (g : LampGroup) (s : State) : Host.Outcome State Fault Refusal :=
  let x := s.light.groups.get g
  if x.phase = .safe ∧ expired s.now x.holdExpiry then
    let s := s.modLampGroup g fun x => { x with phase := .base, holdExpiry := none }
    done ((channelsOf g).foldl (fun s c => s.modChannel c (·.settleToBase s.now)) s)
  else notDue s

/-- A group at the emergency stop (R93). -/
def LampGroupState.stop (g : LampGroupState) (now : Stamp) : LampGroupState :=
  { g with phase := .safe,
           holdExpiry := if g.defn.response = .timed then some (later now (g.defn.hold * 1000)) else none }

/-- A channel at the emergency stop (R93). -/
def ChannelState.stop (c : ChannelState) : ChannelState :=
  { c with handover := none, levelBlend := none, masterFade := none }

/-- The Lighting Engine at the emergency stop, before its frame (R93). -/
def Lighting.stop (l : Lighting) (now : Stamp) : Lighting :=
  { l with groups := l.groups.map (·.stop now), channels := l.channels.map ChannelState.stop }

/-- ESTOP_ON_LIGHTING: every group takes its safe levels, and a frame is made (R93). -/
def execEstopOnLighting (s : State) : Host.Outcome State Fault Refusal := match s.delivery.stopLighting with
  | .on :: rest =>
    done { s with delivery := { s.delivery with stopLighting := rest }, light := (s.light.stop s.now).frame s.now }
  | _ => notDue s

/-- A channel of a group that leaves SAFE or BASE at Resume (R95). -/
def ChannelState.recover (c : ChannelState) (g : LampGroupState) (now : Stamp) : ChannelState :=
  if g.phase = .clear then c
  else { c with levelBlend := some { start := (c.level g.phase now).1, t0 := now, toBase := false },
                masterFade := some { start := c.master g now, t0 := now } }

/-- The Lighting Engine at Resume (R95). -/
def Lighting.recover (l : Lighting) (now : Stamp) : Lighting :=
  { l with channels := .ofFn fun c => (l.channels.get c).recover (l.groups.get (groupOfChannel c)) now,
           groups := l.groups.map fun g => { g with phase := .clear, holdExpiry := none } }

/-- RESUME_LIGHTING: the Resume reaches the Lighting Engine (R95). -/
def execResumeLighting (s : State) : Host.Outcome State Fault Refusal := match s.delivery.stopLighting with
  | .resume :: rest =>
    done { s with delivery := { s.delivery with stopLighting := rest }, light := s.light.recover s.now }
  | _ => notDue s

end Sys2Proof.Machine
end

