-- ==== Sys2Proof/Machine/Control.lean ====
section
/-! DEFINITION. The commands of the Control Owner (section 10.5): taking control, its grant and its cancellations,
and the return of control. -/

namespace Sys2Proof.Machine

/-- Changes the Control Owner. -/
def State.modOwner (s : State) (f : Owner → Owner) : State := { s with owner := f s.owner }

/-- A take is granted: the Scheduler keeps the mode to return to and makes it SERVICE (R56). -/
def Work.grant (w : Work) : Work :=
  Work.setMode { w with sched := { w.sched with suspended := false, serviceReturn := w.sched.mode } } .service .take

/-- The Control Owner grants the take (R167). -/
def State.grant (s : State) : State :=
  (s.modOwner fun o => { o with owner := .serviceLink, take := none }).run Work.grant

/-- The Scheduler is told of a pending take (R56). -/
def Work.takePending (w : Work) (form : TakeForm) : Work :=
  let w := Work.flush { w with sched := { w.sched with suspended := true } } .service
  if form = .now then w.abortAll (fun _ => true) .stopped else w

/-- A take becomes pending: the flag with its form, and the silence timer (R166, R167). -/
def Owner.taking (o : Owner) (form : TakeForm) (now : Stamp) : Owner :=
  { o with take := some form, silence := some (later now 60000) }

/-- The modes of TAKE CONTROL (R167). -/
def takeMode : Mode → Option ReplyCode
  | .standstill => some .estopActive
  | .closed => none
  | .opened => none
  | .service => none

/-- TAKE CONTROL, on the service link (R167). -/
def execTakeControl (lengthOk : Bool) (form : Nat) (s : State) : Host.Outcome State Fault Refusal :=
  s.request { port := .serviceLink, lengthOk := lengthOk } 0x38 { Gate.free with mode := takeMode } fun s =>
    match code? 0 [TakeForm.wait, TakeForm.now] form with
    | none => .refuse s .badBody
    | some f =>
      if s.owner.owner = .serviceLink then .reply s .done .empty
      else
        let r := (s.modOwner fun o => o.taking f s.now).run fun w => w.takePending f
        if r.sched.allFree then .reply r.grant .done (.granted r.sched.mode)
        else .hold r .takeControl

/-- The mode permits a grant: an emergency stop that the Scheduler has already taken leaves the take to its
cancellation (R167). -/
def grantMode : Mode → Bool
  | .closed => true
  | .opened => true
  | .service => false
  | .standstill => false

/-- TAKE_GRANT: the Scheduler's last occupied context has freed while a take is pending (R167). -/
def execTakeGrant (s : State) : Host.Outcome State Fault Refusal :=
  if s.owner.take.isSome && s.sched.allFree && grantMode s.sched.mode then
    done (s.grant.answer .serviceLink (replyKind 0x38) .done (.granted s.sched.mode))
  else notDue s

/-- The Scheduler is told that the take is cancelled: dispatch resumes, with a scan (R56). -/
def Work.takeCancelled (w : Work) : Work := { w with sched := { w.sched with suspended := false }, owed := true }

/-- The take is cancelled (R167). -/
def State.cancelTake (s : State) : State :=
  (s.modOwner fun o => { o with take := none, silence := none }).run Work.takeCancelled

/-- Control returns to the show link, as the Scheduler, the Lighting Engine and the Mixer take it (R56, R97, R134,
R168). -/
def Work.giveBack (w : Work) (cause : ModeCause) : Work :=
  let w := if w.sched.mode = .standstill then
      { w with sched := { w.sched with returnMode := if w.sched.returnMode = .service then w.sched.serviceReturn
                                                     else w.sched.returnMode } }
    else w.setMode w.sched.serviceReturn cause
  let w := { w with light := { w.light with channels := w.light.channels.map fun c => { c with test := none } } }
  w.each (units 4) Work.silence

/-- The Control Owner returns control (R168). -/
def State.giveBack (s : State) (cause : ModeCause) : State :=
  (s.modOwner fun o => { o with owner := .showLink, silence := none }).run fun w => w.giveBack cause

/-- GIVE BACK, on the service link (R168). -/
def execGiveBack (lengthOk : Bool) (s : State) : Host.Outcome State Fault Refusal :=
  s.request { port := .serviceLink, lengthOk := lengthOk } 0x39 Gate.owned fun s =>
    .reply (s.giveBack .giveBack) .done .empty

/-- SERVICE_SILENCE: the silence timer expires, and a pending take is cancelled without a reply or control is
returned (R166 to R168). -/
def execServiceSilence (s : State) : Host.Outcome State Fault Refusal :=
  if !expired s.now s.owner.silence then notDue s
  else if s.owner.take.isSome then done (s.cancelTake.modPort .serviceLink fun x => { x with pending := none })
  else done (s.giveBack .silence)

/-- ESTOP_ON_CONTROL_OWNER: a pending take is cancelled and answered ESTOP_ACTIVE (R167). -/
def execEstopOnControlOwner (s : State) : Host.Outcome State Fault Refusal := match s.delivery.stopOwner with
  | .on :: rest =>
    let s := { s with delivery := { s.delivery with stopOwner := rest } }
    done (if s.owner.take.isSome then s.cancelTake.answer .serviceLink (replyKind 0x38) .estopActive .empty else s)
  | _ => notDue s

end Sys2Proof.Machine
end

