-- ==== Sys2Proof/Machine/Queries.lean ====
section
/-! DEFINITION. The queries (kinds 01h to 0Bh): each reports the state as it stands and changes nothing but the
port that answers it. -/

namespace Sys2Proof.Machine

/-- A query answered in its event. -/
def State.query (s : State) (h : FrameHead) (kind : Nat) (answer : State → ReplyCode × ReplyBody) :
    Host.Outcome State Fault Refusal :=
  s.request h kind Gate.query fun s => .reply s (answer s).1 (answer s).2

/-- What QUERY STATUS gives (R169). -/
def State.statusReport (s : State) : StatusReport :=
  { load := s.store.load, mode := s.sched.mode, returnMode := s.sched.returnMode,
    serviceReturn := s.sched.serviceReturn, owner := s.owner.owner, take := s.owner.take,
    silenceLeft := s.owner.silence.elim 0 (msLeft s.now), estopActive := s.supervisor.estop.active,
    storing := s.store.job.isSome, runTime := s.now, time := s.clock.time,
    queueEntries := s.sched.queue.length, occupiedContexts := s.sched.occupiedCount,
    outboxWaiting := s.link.outbox.length, missed := s.link.missed, baud := s.link.baud }

/-- QUERY STATUS (R169): answered also during loading. -/
def execQueryStatus (h : FrameHead) (s : State) : Host.Outcome State Fault Refusal :=
  s.query h 0x01 fun s => (.done, .status s.statusReport)

/-- What QUERY ZONES gives for a floor zone (R16). -/
def State.zoneReport (s : State) (z : FloorZone) : ZoneReport :=
  let x := s.inputs.zones.get z
  { state := x.state, hold := x.hold, left := x.expiry.elim 0 (msLeft s.now),
    members := (membersOf s.inputs.lines z).length }

/-- What QUERY ZONES gives for an input (R16). -/
def inputReport (l : InputLine) : InputReport :=
  { role := l.profile.role, high := l.high, active := l.active, held := l.held, stuckRun := l.stuckRun,
    stuckLatch := l.stuckLatch }

/-- QUERY ZONES (R16). -/
def execQueryZones (h : FrameHead) (s : State) : Host.Outcome State Fault Refusal :=
  s.query h 0x02 fun s => (.done, .zones ((units 8).map s.zoneReport) (s.inputs.lines.rows.map inputReport))

/-- What QUERY SCENE answers for a scene (R36). -/
def State.sceneAnswer (s : State) (i : SceneId) : ReplyCode × ReplyBody :=
  let x := s.sched.scenes.get i
  match x.record with
  | none => (.notDefined, .undefinedScene x.runs x.started x.endCause)
  | some r => (.done, .scene
      { record := r, state := x.state, context := x.context, started := x.started, restUntil := x.restUntil,
        endCause := x.endCause, restLeft := x.restUntil.elim 0 (msLeft s.now), runs := x.runs, ready := x.ready,
        lines := s.sched.readyLines })

/-- QUERY SCENE (R36). -/
def execQueryScene (h : FrameHead) (scene : Nat) (s : State) : Host.Outcome State Fault Refusal :=
  s.query h 0x03 (fun s => match unit? 64 scene with
    | none => (.badBody, .empty)
    | some i => s.sceneAnswer i)

/-- Every axis and sound zone, as claims. -/
def allResources : List Resource := (units 12).map .axis ++ (units 4).map .zone

/-- What QUERY QUEUE gives for an entry (R59). -/
def State.entryReport (s : State) (e : Entry) : EntryReport :=
  { scene := e.scene, source := e.source, priority := e.priority, arrival := e.arrival, preempting := e.preempting,
    expiryLeft := if e.preempting then none else some (msLeft s.now e.expiry),
    promised := allResources.filter fun r => decide ((s.work.claim r).promise = some e.scene) }

/-- What QUERY QUEUE gives for a claims record (R59). -/
def State.claimReport (s : State) (r : Resource) : ClaimReport :=
  let c := s.work.claim r
  { resource := r, holder := c.holder, scene := c.holder.bind s.work.ctxScene, promised := c.promise }

/-- What QUERY QUEUE gives for a context (R59). -/
def State.contextReport (s : State) (x : Context) : ContextReport :=
  { scene := x.scene, state := (s.sched.scenes.get x.scene).state,
    left := (x.deadline.or x.returnLimit).elim 0 (msLeft s.now), journal := x.journal }

/-- What QUERY QUEUE answers for a section (R59, R178). -/
def State.queueAnswer (s : State) (part : Nat) : ReplyCode × ReplyBody := match part with
  | 1 => (.done, .queueEntries s.sched.mode s.sched.suspended (s.sched.queue.map s.entryReport))
  | 2 => (.done, .queueClaims (allResources.map s.claimReport) (s.sched.contexts.rows.map (·.map s.contextReport)))
  | _ => (.badBody, .empty)

/-- QUERY QUEUE (R59, R178). -/
def execQueryQueue (h : FrameHead) (part : Nat) (s : State) : Host.Outcome State Fault Refusal :=
  s.query h 0x04 (fun s => s.queueAnswer part)

/-- What QUERY TRACKS gives for a track (R76). The next record of a WAITING track is the one behind the record it has
issued; where that is the last of its list, the offset given is the list's length (assumption log 33). -/
def trackReport (now : Stamp) (t : Track) : TrackReport := match t.phase with
  | .idle => { defn := t.defn, state := .idle, pass := t.pass, next := none, dueLeft := none, awaited := none }
  | .playing next _ _ due =>
    { defn := t.defn, state := .playing, pass := t.pass, next := some next, dueLeft := some (msLeft now due), awaited := none }
  | .waiting issued _ _ on =>
    { defn := t.defn, state := .waiting, pass := t.pass, next := some (issued + 1), dueLeft := none, awaited := some on }
  | .done => { defn := t.defn, state := .done, pass := t.pass, next := none, dueLeft := none, awaited := none }

/-- What QUERY TRACKS answers for a context (R76). -/
def State.tracksAnswer (s : State) (c : CtxId) : ReplyCode × ReplyBody := match s.sched.contexts.get c with
  | none => (.done, .freeContext)
  | some x => (.done, .tracks x.scene (s.sched.scenes.get x.scene).state (x.tracks.map (trackReport s.now)))

/-- QUERY TRACKS (R76). -/
def execQueryTracks (h : FrameHead) (ctx : Nat) (s : State) : Host.Outcome State Fault Refusal :=
  s.query h 0x05 (fun s => match unit? 8 ctx with
    | none => (.badBody, .empty)
    | some c => s.tracksAnswer c)

/-- What READ CUES answers (R66). -/
def State.cuesAnswer (s : State) (list offset count : Nat) : ReplyCode × ReplyBody := match unit? 128 list with
  | none => (.badBody, .empty)
  | some l =>
    let cues := s.cues.get l
    if cues = [] then (.notDefined, .cuesFree (cuesFree s.cues))
    else if !within 1 24 count ∨ cues.length < offset + count then (.badBody, .empty)
    else (.done, .cues cues.length (cuesFree s.cues) ((cues.drop offset).take count))

/-- READ CUES (R66). -/
def execReadCues (h : FrameHead) (list offset count : Nat) (s : State) : Host.Outcome State Fault Refusal :=
  s.query h 0x06 (fun s => s.cuesAnswer list offset count)

/-- QUERY LEVELS (R98). -/
def execQueryLevels (h : FrameHead) (s : State) : Host.Outcome State Fault Refusal :=
  s.query h 0x07 fun s => (.done, .levels s.light.snapshot)

/-- What QUERY AXES gives for an axis (R122). The direction of an axis at rest, the speed limit of an axis with no move
and the form of the speed are the model's choice (assumption log 31). -/
def State.axisReport (s : State) (a : Axis) : AxisReport :=
  let x := s.motion.axes.get a
  let k := x.point s.now
  { enabled := x.defn.enabled, state := x.state, position := x.positionAt s.now,
    target := if x.state = .moving ∨ x.state = .held then x.target else none, kind := x.kind,
    holder := (s.sched.axisClaims.get a).holder, speed := k.speed, roots := k.roots,
    upward := if x.state = .homing ∨ x.stoppedHoming then false else k.upward,
    speedLimit := x.limit (s.motion.groups.get (groupOfAxis a)) (if x.state = .homing then x.defn.homingSpeed else x.cruise),
    guardEffect := x.guardEffect, home := x.home.active, low := x.low.active, high := x.high.active,
    travelCause := x.travelCause, driverCause := x.driverCause, travelLatch := x.travelLatch,
    steps := if x.state = .homing then some (x.stepsAt s.now) else none, paused := x.paused }

/-- What QUERY AXES gives for an axis group (R122). -/
def axisGroupReport (g : AxisGroupState) : AxisGroupReport :=
  { thermal := g.thermal, derate := g.derate, lineActive := g.lineActive, latch := g.latch }

/-- QUERY AXES (R122). -/
def execQueryAxes (h : FrameHead) (s : State) : Host.Outcome State Fault Refusal :=
  s.query h 0x08 fun s => (.done, .axes ((units 12).map s.axisReport) (s.motion.groups.rows.map axisGroupReport))

/-- The state of a slot by name. -/
def slotState (t : Slot) : SlotState := match t.content with
  | .empty => .empty
  | .reading => .reading
  | .filled _ => .filled

/-- The slots of a buffer; a stopped one's four are EMPTY (R126). -/
def slotStates (b : Option Buffer) : List SlotState := b.elim (List.replicate 4 .empty) fun b => b.slots.map slotState

/-- What QUERY AUDIO gives for a clip that plays or is listed (R138). The Mixer knows the track only of a cue with WAIT
set (R130), so the model gives none for any other (assumption log 23). -/
def State.voiceReport (s : State) (x : ListedClip) (position : Nat) : VoiceReport :=
  { clip := x.clip, position := position, attenuation := x.attenuation, scene := x.ctx.bind s.work.ctxScene,
    track := x.track.map (·.track + 1) }

/-- What QUERY AUDIO gives for a sound zone (R138). -/
def State.soundReport (s : State) (z : SoundZoneState) : SoundZoneReport :=
  { defn := z.defn, voice := z.voice.map fun v => s.voiceReport v.item v.buffer.position,
    waiting := z.waiting.map fun x => s.voiceReport x 0, bedPlaying := z.bed.isSome,
    bedPosition := z.bed.elim 0 (·.position), bedAttenuation := z.ramp.value s.now, bedTarget := z.ramp.target,
    duck := z.duckValue s.now, duckUp := z.duck.up, muted := z.muted,
    voiceSlots := slotStates (z.voice.map (·.buffer)), bedSlots := slotStates z.bed }

/-- QUERY AUDIO (R138). -/
def execQueryAudio (h : FrameHead) (clip : Option ClipId) (s : State) : Host.Outcome State Fault Refusal :=
  s.query h 0x09 fun s => (.done, .audio
    { zones := s.mixer.zones.rows.map s.soundReport, latch := s.mixer.latch, answering := s.mixer.answering,
      freeBlocks := freeBlocks s.mixer.clips, entry := clip.map s.mixer.clips.get })

/-- What QUERY HEALTH gives for a sensor (R150). -/
def sensorReport (x : SensorState) : SensorReport :=
  { defn := x.defn, reading := x.reading, thermal := x.thermal, faultLatch := x.faultLatch, hotSeen := x.hotSeen,
    criticalSeen := x.criticalSeen }

/-- What QUERY HEALTH gives for a group (R150). -/
def groupHealth (sensors : Table 4 SensorState) (binding : Option Sensor) (l : DriverLine) : GroupHealth :=
  { sensor := binding, thermal := (boundThermal sensors binding).1, derate := (boundThermal sensors binding).2,
    lineActive := l.filter.active, latch := l.latch }

/-- The Supervisor's own part of a QUERY HEALTH (R150). -/
def State.ownHealth (s : State) : SupervisorHealth :=
  let v := s.supervisor
  { sensors := v.sensors.rows.map sensorReport,
    lampGroups := (units 6).map fun g => groupHealth v.sensors (s.light.groups.get g).defn.sensor (v.lampLines.get g),
    axisGroups := (units 3).map fun g => groupHealth v.sensors (v.axisBindings.get g) (v.axisLines.get g),
    estopActive := v.estop.active }

/-- QUERY HEALTH: the Supervisor's part is taken, and the request stays pending until the other blocks have
given theirs (R150, R161). -/
def execQueryHealth (h : FrameHead) (s : State) : Host.Outcome State Fault Refusal :=
  s.request h 0x0A Gate.query fun s => .hold s (.health s.ownHealth none none none)

/-- The latches gathered so far with one more block's part; absent where that block has given its part. -/
def State.gather (s : State) (part : HealthPart) (stuck travel : Option (List Bool)) (store : Option Bool) :
    Option (Option (List Bool) × Option (List Bool) × Option Bool) := match part, stuck, travel, store with
  | .inputs, none, t, c => some (some (s.inputs.lines.rows.map (·.stuckLatch)), t, c)
  | .motion, a, none, c => some (a, some (s.motion.axes.rows.map (·.travelLatch)), c)
  | .mixer, a, t, none => some (a, t, some s.mixer.latch)
  | _, _, _, _ => none

/-- HEALTH_PART_GATHERED: a block gives its latches for the pending QUERY HEALTH, and with the last part the
reply is placed (R150). -/
def execHealthPartGathered (p : Port) (part : HealthPart) (s : State) : Host.Outcome State Fault Refusal :=
  match (s.port p).pending with
  | some (.health own stuck travel store) => match s.gather part stuck travel store with
    | some (some a, some b, some c) =>
      done (s.answer p (replyKind 0x0A) .done (.health { own := own, stuck := a, travel := b, clipStore := c }))
    | some (a, b, c) => done (s.modPort p fun x => { x with pending := some (.health own a b c) })
    | none => notDue s
  | _ => notDue s

/-- QUERY CLOCK (R159). -/
def execQueryClock (h : FrameHead) (s : State) : Host.Outcome State Fault Refusal :=
  s.query h 0x0B fun s => (.done, .clock
    { runTime := s.now, time := s.clock.time, phase := s.clock.phase, trimInUse := s.clock.trimInUse,
      trimPending := s.clock.trimPending, timetable := s.clock.timetable.rows })

end Sys2Proof.Machine
end

