-- ==== Sys2Proof/Machine/Acknowledge.lean ====
section
/-! DEFINITION. The routed entries of a pending ACKNOWLEDGE FAULTS (R147). -/

namespace Sys2Proof.Machine

/-- An entry is not yet answered and is of a kind. -/
def AckEntry.awaits (e : AckEntry) (kind : LatchKind) : Bool := e.outcome.isNone && decide (e.kind = kind)

/-- The unit of the first unanswered entry of a kind in the ACKNOWLEDGE FAULTS pending on a port. -/
def State.ackUnit (s : State) (p : Port) (kind : LatchKind) : Option Nat := match (s.port p).pending with
  | some (.acknowledge entries) => (entries.find? fun e => AckEntry.awaits e kind).map (·.unit)
  | _ => none

/-- The entries with the first unanswered one of a kind answered. -/
def ackFirst (kind : LatchKind) (o : AckOutcome) : List AckEntry → List AckEntry
  | [] => []
  | e :: rest => if AckEntry.awaits e kind then { e with outcome := some o } :: rest else e :: ackFirst kind o rest

/-- The expanded entries are answered so far: with the last one the reply is placed (R147). -/
def State.acknowledged (s : State) (p : Port) (entries : List AckEntry) : State :=
  if entries.all fun e => e.outcome.isSome then s.answer p (replyKind 0x28) .done (.acks entries)
  else s.modPort p fun x => { x with pending := some (.acknowledge entries) }

/-- A block answers the first unanswered entry of a kind. -/
def State.ackAnswer (s : State) (p : Port) (kind : LatchKind) (o : AckOutcome) : State := match (s.port p).pending with
  | some (.acknowledge entries) => s.acknowledged p (ackFirst kind o entries)
  | _ => s

/-- The outcome of acknowledging a latch whose condition is present or gone (R148). -/
def ackOutcome (latch present : Bool) : AckOutcome :=
  if !latch then .wasClear else if present then .stillPresent else .cleared

end Sys2Proof.Machine
end

