-- ==== Sys2Proof/Machine/Axes.lean ====
section
/-! DEFINITION. The commands of the Motion Controller (chapter 6). -/

namespace Sys2Proof.Machine

/-- Changes an axis. -/
def State.modAxis (s : State) (a : Axis) (f : AxisRec → AxisRec) : State :=
  { s with motion := { s.motion with axes := s.motion.axes.modify a f } }

/-! Definition, homing and jogging. -/

/-- An axis is in motion or ready to be: HOMING, MOVING, HELD or STOPPING (R100, R104). -/
def AxisRec.busy (x : AxisRec) : Bool := match x.state with
  | .homing => true
  | .moving => true
  | .held => true
  | .stopping => true
  | .unhomed => false
  | .idle => false
  | .faulted => false

/-- An axis takes a definition: unless FAULTED it becomes UNHOMED, and a new switch sense re-seeds its switches
from their raw levels (R100, R101). -/
def AxisRec.redefine (x : AxisRec) (d : AxisDef) : AxisRec :=
  let x := if d.sense = x.defn.sense then x
           else { x with home := x.home.accept (sense d.sense x.home.line), low := x.low.accept (sense d.sense x.low.line),
                         high := x.high.accept (sense d.sense x.high.line) }
  if x.state = .faulted then { x with defn := d } else { x with defn := d, state := .unhomed, position := none, target := none }

/-- An accepted DEFINE AXIS (R100, R114). -/
def Work.defineAxis (w : Work) (a : Axis) (d : AxisDef) : Work :=
  let w := w.modAxis a fun x => x.redefine d
  let g := w.guardOf a
  let w := (w.modAxis a fun x => { x with guardEffect := g }).push [.axisReady a]
  if d.enabled ∧ (w.axisGroup a).lineActive ∧ (w.axis a).state ≠ .faulted then w.faultAxis a .driver else w

/-- DEFINE AXIS (R100). -/
def execDefineAxis (h : FrameHead) (b : AxisBody) (s : State) : Host.Outcome State Fault Refusal :=
  s.request h 0x17 Gate.define fun s => match axisOf b with
    | none => .refuse s .badBody
    | some (a, d, adjusted) =>
      if (s.sched.axisClaims.get a).holder.isSome || (s.motion.axes.get a).busy then .refuse s .inUse
      else .reply (s.run fun w => w.defineAxis a d) (doneOr adjusted) .empty

/-- The modes of HOME AXES (R104, R163). -/
def homingMode : Mode → Option ReplyCode
  | .standstill => some .estopActive
  | .closed => none
  | .opened => none
  | .service => none

/-- The outcome of HOME AXES for an axis, by the first line that applies (R104). -/
def Work.homeOutcome (w : Work) (a : Axis) : HomeOutcome :=
  let x := w.axis a
  if (w.holderOf a).isSome then .inUse
  else if !x.defn.enabled then .notEnabled
  else if x.state = .faulted then .faulted
  else if (w.axisGroup a).thermal = .critical then .locked
  else if x.busy then .busy
  else .started

/-- The homing runs of a set of axes, in ascending order, with their outcomes (R104, R105). -/
def Work.homeAxes (w : Work) : List Axis → Work × List (Axis × HomeOutcome)
  | [] => (w, [])
  | a :: rest =>
    let o := w.homeOutcome a
    let r := Work.homeAxes (if o = .started then w.startHoming a else w) rest
    (r.1, (a, o) :: r.2)

/-- HOME AXES (R104). -/
def execHomeAxes (h : FrameHead) (axes : Nat) (s : State) : Host.Outcome State Fault Refusal :=
  s.request h 0x2D { Gate.owned with mode := homingMode } fun s =>
    if s.motion.estop then .refuse s .estopActive
    else match bitSet? 12 axes with
      | none => .refuse s .badBody
      | some [] => .refuse s .badBody
      | some (a :: rest) =>
        let r := s.work.homeAxes (a :: rest)
        .reply (s.commit r.1.settle) .done (.homing r.2)

/-- An accepted jog (R121): the target clamped to the soft limits, with its notice, and the move begun. -/
def Work.jog (w : Work) (a : Axis) (speed target : Nat) : Work :=
  let used := (w.axis a).clampTarget target
  let w := if used = target then w else w.note (.clamped a none target used)
  w.begin a used .jog ((w.axis a).cruiseOf speed)

/-- JOG AXIS (R121). -/
def execJogAxis (h : FrameHead) (axis speed target : Nat) (s : State) : Host.Outcome State Fault Refusal :=
  s.request h 0x31 Gate.free fun s => match s.serviceRefusal h.port with
    | some c => .refuse s c
    | none => match unit? 12 axis with
      | none => .refuse s .badBody
      | some a =>
        let percent := clampTo 1 100 speed
        let asked := min 60000 target
        match s.work.skipReason a with
        | some r => .reply s .done (.jog (.skipped r))
        | none =>
          let adjusted := percent != speed || asked != target || (s.motion.axes.get a).clampTarget asked != asked
          .reply (s.run fun w => w.jog a percent asked) (doneOr adjusted) (.jog .started)

/-! Switches. -/

/-- SWITCH_LINE_CHANGE: a switch line of an axis changes (R101). -/
def execSwitchLineChange (a : Axis) (sw : Switch) (high : Bool) (s : State) : Host.Outcome State Fault Refusal :=
  let x := s.motion.axes.get a
  if (x.switch sw).line = high then notDue s
  else done (s.modAxis a fun x => x.modSwitch sw fun f => f.change high (sense x.defn.sense high) s.now 2)

/-- SWITCH_FILTER_EXPIRY: a switch change is accepted, and one to active is acted on by the axis's state (R101,
R106, R113). -/
def execSwitchFilterExpiry (a : Axis) (sw : Switch) (s : State) : Host.Outcome State Fault Refusal :=
  let x := s.motion.axes.get a
  let active := sense x.defn.sense (x.switch sw).line
  if !expired s.now (x.switch sw).timer then notDue s
  else
    s.event fun w =>
      let w := w.modAxis a fun x => x.modSwitch sw fun f => f.accept active
      if active then w.switchActive a sw else w

/-! The ends of motions. -/

/-- The axis's motion has come to rest. -/
def AxisRec.over (x : AxisRec) (now : Stamp) : Bool := x.travel.any fun m => m.over now

/-- HOME_NOT_FOUND: a homing run has made 62,000 steps without its home switch (R113). -/
def execHomeNotFound (a : Axis) (s : State) : Host.Outcome State Fault Refusal :=
  let x := s.motion.axes.get a
  if x.state = .homing ∧ 62000 ≤ x.stepsAt s.now then s.event fun w => w.faultAxis a .homeNotFound else notDue s

/-- MOVE_ARRIVAL: an axis comes to rest at its target (R109), a HELD one included (R111). -/
def execMoveArrival (a : Axis) (s : State) : Host.Outcome State Fault Refusal :=
  let x := s.motion.axes.get a
  match x.target with
  | none => notDue s
  | some target =>
    if x.over s.now ∧ (x.state = .moving ∨ (x.state = .held ∧ x.positionAt s.now = some target)) then
      s.event fun w => w.axisArrive a target
    else notDue s

/-- STOPPING_AT_REST: a STOPPING axis comes to rest and becomes IDLE, or UNHOMED if it was homing (R117 to
R119). -/
def execStoppingAtRest (a : Axis) (s : State) : Host.Outcome State Fault Refusal :=
  let x := s.motion.axes.get a
  if x.state = .stopping ∧ x.over s.now then
    s.event fun w =>
      if x.stoppedHoming then
        (w.modAxis a fun x => { x with state := .unhomed, position := none, travel := none, target := none, kind := none,
                                       steps := 0, stoppedHoming := false }).comeToRest a
      else w.restAt a (x.positionAt s.now)
  else notDue s

/-- HELD_AT_REST: a HELD axis, or a homing run that a guard has paused, comes to rest short of its target
(R105, R111). -/
def execHeldAtRest (a : Axis) (s : State) : Host.Outcome State Fault Refusal :=
  let x := s.motion.axes.get a
  if !x.over s.now then notDue s
  else if x.state = .held ∧ x.positionAt s.now ≠ x.target then
    done (s.modAxis a fun x => { x with position := x.positionAt s.now, travel := none })
  else if x.state = .homing ∧ x.paused then
    done (s.modAxis a fun x => { x with steps := x.stepsAt s.now, travel := none })
  else notDue s

/-! Deliveries. -/

/-- ZONE_CHANGE_MOTION: the Motion Controller takes the oldest change of a floor zone delivered to it (R15,
R111, R112). -/
def execZoneChangeMotion (z : FloorZone) (s : State) : Host.Outcome State Fault Refusal :=
  match takeZone z s.delivery.zoneMotion with
  | none => notDue s
  | some (x, rest) =>
    let s := { s with delivery := { s.delivery with zoneMotion := rest } }
    s.event fun w => w.zoneToMotion z (zoneOccupied x.state)

/-- ESTOP_ON_MOTION: the flag is set and every axis is stopped at its emergency deceleration (R119). -/
def execEstopOnMotion (s : State) : Host.Outcome State Fault Refusal := match s.delivery.stopMotion with
  | .on :: rest =>
    let s := { s with delivery := { s.delivery with stopMotion := rest } }
    s.event Work.estopMotion
  | _ => notDue s

/-- ESTOP_OFF_MOTION: the flag is cleared, and nothing is restarted (R119). -/
def execEstopOffMotion (s : State) : Host.Outcome State Fault Refusal := match s.delivery.stopMotion with
  | .off :: rest =>
    done { s with delivery := { s.delivery with stopMotion := rest }, motion := { s.motion with estop := false } }
  | _ => notDue s

/-- ACK_AXIS_TRAVEL: the Motion Controller answers a routed acknowledgement of a travel latch (R115). -/
def execAckAxisTravel (p : Port) (s : State) : Host.Outcome State Fault Refusal :=
  match (s.ackUnit p .axisTravel).bind (unit? 12) with
  | none => notDue s
  | some a =>
    let x := s.motion.axes.get a
    let present := x.low.active || x.high.active
    let o := ackOutcome x.travelLatch present
    let r := s.run fun w =>
      if o = .cleared then (w.modAxis a fun x => { x with travelLatch := false, travelCause := false }).causeGone a else w
    done (r.ackAnswer p .axisTravel o)

end Sys2Proof.Machine
end

