-- ==== Sys2Proof/Machine/Startup.lean ====
section
/-! DEFINITION. Start-up (section 11.3) and RESTART (R170): the values every block takes, the checks of the show
image, and the event that ends loading. -/

namespace Sys2Proof.Machine

/-! Beginning start-up (R174). -/

/-- Bytes a write left whose outcome is not known: free values, counted (assumption log 4). -/
def freeBytes (n count : Nat) : List Byte := (List.range n).map fun i => Config.failedWriteByte (count + i)

/-- A clip-region write in progress is lost: what stands at its addresses is free (assumption log 4). -/
def Store.loseWrite (t : Store) : Store := match t.held, t.writes with
  | some .clipWrite, x :: _ =>
    { t with clips := writeBytes t.clips x.address (freeBytes x.data.length t.failedBytes),
             failedBytes := t.failedBytes + x.data.length }
  | _, _ => t

/-- A block of lines as start-up finds them: the raw lines stand, everything else starts again (R4). -/
def Inputs.restart (x : Inputs) : Inputs :=
  { lines := x.lines.map fun l => InputLine.start defaultInput l.high,
    zones := .fill 8 { hold := 0, state := .clear, expiry := none } }

/-- The Motion Controller as start-up begins (R102): the raw switch lines stand. -/
def MotionState.restart (x : MotionState) : MotionState :=
  MotionState.start (x.axes.map fun a => AxisRec.start defaultAxis a.home.line a.low.line a.high.line)

/-- The Supervisor as start-up begins (R140, R145, R146): the raw lines stand. -/
def Supervisor.restart (x : Supervisor) : Supervisor :=
  { sensors := emptyShow.sensors.map SensorState.start,
    lampLines := x.lampLines.map fun l => { filter := Filter.start l.filter.line, latch := false },
    axisLines := x.axisLines.map fun l => { filter := Filter.start l.filter.line, latch := false },
    axisBindings := emptyShow.axisBindings, estop := Filter.start x.estop.line, nextSample := none, toRead := [] }

/-- Start-up begins: every block takes its values, the run time is 0, the load state LOADING, and the Show Store
takes the flash to read the image (R174). A Restart keeps the Clock's time, validity, phase and trims, and the
strapped baud rate (R154, section 11.3). R17, R60, R174 and R175 give the scene table, cue memory and the other working
definitions only once loading has ended: that they are those of the empty show until then, every scene undefined and
OFF and every cue list empty, is the model's choice (assumption log 36). -/
def State.startUp (s : State) (kind : StartKind) (clock : Clock) (baud : Baud) (image : FlashImage)
    (clips : List Host.Cell) (failedBytes : Nat) : State :=
  { clock := clock, link := Link.start baud, owner := Owner.start, inputs := s.inputs.restart,
    sched := Scheduler.start emptyShow.scenes, cues := emptyShow.lists,
    light := Lighting.start emptyShow.channels emptyShow.lampGroups, motion := s.motion.restart,
    mixer := Mixer.start emptyShow.clips emptyShow.soundZones, supervisor := s.supervisor.restart,
    store := Store.start kind image clips failedBytes, delivery := Delivery.empty, pending := s.pending }

/-- The Clock as a Restart leaves it: run time 0, firing off, the rest unbroken (R153, R154). R156 gives the timetable
only once loading has ended; that it is empty until then is the model's choice (assumption log 36). -/
def Clock.restart (c : Clock) : Clock := { c with runTime := 0, firing := false, timetable := .fill 32 none }

/-- The part restarts (R170). -/
def State.restart (s : State) : State :=
  let t := s.store.loseWrite
  s.startUp .restart s.clock.restart s.link.baud t.image t.clips t.failedBytes

/-- POWER_ON: the part is powered, with the strap and the flash as they stand (R174). Flash contents that are
not given are those the part left. -/
def execPowerOn (strap : Baud) (found : Option FoundFlash) (s : State) : Host.Outcome State Fault Refusal :=
  let t := s.store.loseWrite
  let image := found.elim t.image (·.image)
  let clips := found.elim t.clips fun f => canonicalCells f.clips
  .next (s.startUp .powerOn Clock.start strap image clips t.failedBytes)

/-! The end of loading (R174 to R176). -/

/-- The first check of the image that fails (R174). -/
def imageReason (image : FlashImage) (readFailed : Bool) : Option LoadReason :=
  if readFailed then some .readFailed
  else if image.lengthField ≠ some image.bytes.length ∨ image.bytes = [] then some .length
  else if image.crcField ≠ some (crc16 image.bytes) then some .crc
  else match image.definitions with
    | none => some .range
    | some d => if !rangesOk d then some .range else if !crossReferencesOk d then some .crossReference else none

/-- A clip entry loaded as WRITING is taken as EMPTY (R123). -/
def loadedClip : ClipEntry → ClipEntry
  | .writing _ _ _ => .empty
  | e => e

/-- The working definitions that loading makes (R175). -/
def loadedShow (image : FlashImage) (reason : Option LoadReason) : Definitions := match reason, image.definitions with
  | none, some d => { d with clips := d.clips.map loadedClip }
  | _, _ => emptyShow

/-- An input as loading ends: its profile, and a first debounce timer for a BUTTON or PRESENCE input (R4). -/
def InputLine.load (l : InputLine) (p : InputProfile) (now : Stamp) : InputLine :=
  { InputLine.start p l.high with
    debounce := if p.role = .unused then none else some (later now p.debounce) }

/-- An axis as loading ends: its definition, and its first switch filters (R101, R102). -/
def AxisRec.load (x : AxisRec) (d : AxisDef) (now : Stamp) : AxisRec :=
  { AxisRec.start d x.home.line x.low.line x.high.line with
    home := (Filter.start x.home.line).begin now 2, low := (Filter.start x.low.line).begin now 2,
    high := (Filter.start x.high.line).begin now 2 }

/-- The fitted sensors. -/
def fittedSensors (sensors : Table 4 SensorState) : List Sensor := (units 4).filter fun n => (sensors.get n).defn.fitted

/-- The Supervisor as loading ends: the first line filters and the first sampling instant (R140, R145, R146). -/
def Supervisor.load (v : Supervisor) (d : Definitions) (now : Stamp) : Supervisor :=
  let sensors := d.sensors.map SensorState.start
  { sensors := sensors,
    lampLines := v.lampLines.map fun l => { filter := (Filter.start l.filter.line).begin now 5, latch := false },
    axisLines := v.axisLines.map fun l => { filter := (Filter.start l.filter.line).begin now 5, latch := false },
    axisBindings := d.axisBindings, estop := (Filter.start v.estop.line).begin now 5,
    nextSample := some (later now 500), toRead := fittedSensors sensors }

/-- Loading ends: the flash is released, the working definitions are made, the STARTUP notice is placed and
every block begins its work (R175, R176). -/
def State.endLoading (s : State) (reason : Option LoadReason) : State :=
  let d := loadedShow s.store.image reason
  let loaded := reason.isNone
  let length := if reason = some .readFailed then 0 else s.store.image.lengthField.getD 0
  let s := s.note (.startup loaded s.store.kind reason length)
  let sched := Scheduler.start d.scenes
  let motion := MotionState.start (.ofFn fun a => (s.motion.axes.get a).load (d.axes.get a) s.now)
  let light := (Lighting.start d.channels d.lampGroups).frame s.now
  { s with
    clock := { s.clock with timetable := d.timetable, firing := true,
                            trimPending := if s.store.kind = .powerOn then d.trim else s.clock.trimPending },
    inputs := { lines := .ofFn fun i => (s.inputs.lines.get i).load (d.inputs.get i) s.now,
                zones := d.holds.map fun h => { hold := h, state := .clear, expiry := none } },
    sched := { sched with scenes := sched.scenes.map fun x => x.evaluated sched motion.axes },
    cues := d.lists, light := { light with nextFrame := some (later s.now 10) }, motion := motion,
    mixer := (units 4).foldl Mixer.startBed (Mixer.start d.clips d.soundZones),
    supervisor := s.supervisor.load d s.now,
    store := { s.store with load := if loaded then .loaded else .empty, held := none } }

/-- LOAD_END: the image read and its checks end, within 1.5 s (R174, R175). `readFailed` is the flash's report
of a read failure. -/
def execLoadEnd (readFailed : Bool) (s : State) : Host.Outcome State Fault Refusal :=
  if s.store.load = .loading ∧ elapsed s.now 0 ≤ 1500 then
    done (s.endLoading (imageReason s.store.image readFailed))
  else notDue s

/-- IMAGE_READ_TIMEOUT: the read is not complete after 1.5 s, and the load fails with READ_FAILED (R174). -/
def execImageReadTimeout (s : State) : Host.Outcome State Fault Refusal :=
  if s.store.load = .loading ∧ 1500 ≤ elapsed s.now 0 then done (s.endLoading (some .readFailed)) else notDue s

/-- RESTART: the reply DONE is placed, and from then on every request is answered BUSY until the reply is sent
and the part restarts (R170). -/
def execRestart (h : FrameHead) (s : State) : Host.Outcome State Fault Refusal :=
  s.request h 0x2E { Gate.owned with store := true } fun s =>
    .reply { s with link := { s.link with restarting := some h.port } } .done .restartTaken

/-- The frame just sent is the reply of an accepted RESTART (R170). -/
def restartSent (l : Link) (p : Port) : Bool :=
  decide (l.restarting = some p) &&
    decide ((l.port p).transmitter = .reply { kind := replyKind 0x2E, code := .done, body := .restartTaken })

/-- TRANSMIT_DONE: the transmitter has sent its frame; it becomes IDLE and starts the next (R164, R165). After
the last byte of an accepted RESTART's reply the part restarts (R170). -/
def execTransmitDone (p : Port) (s : State) : Host.Outcome State Fault Refusal :=
  if (s.port p).transmitter = .idle then notDue s
  else if restartSent s.link p then .next s.restart
  else done (s.modPort p fun x => { x with transmitter := .idle })

end Sys2Proof.Machine
end

