-- ==== Sys2Proof/Machine/Sound.lean ====
section
/-! DEFINITION. The commands of the Narration Mixer and the Clip Reader (chapter 7) and of the Show Store's flash
operations (sections 11.1 and 11.2). -/

namespace Sys2Proof.Machine

/-! Sound zones. -/

/-- A zone under a new definition: its ramp idle at the new base, its duck's value kept within the new depth and
its direction kept (R129). -/
def SoundZoneState.redefine (z : SoundZoneState) (d : SoundZoneDef) (now : Stamp) : SoundZoneState :=
  { z with defn := d, ramp := .idle d.base, duck := { z.duck with start := min d.depth (z.duckValue now), t0 := now } }

/-- An accepted DEFINE SOUND ZONE (R129). -/
def Mixer.define (m : Mixer) (z : SoundZone) (d : SoundZoneDef) (now : Stamp) : Mixer :=
  let same := decide ((m.zones.get z).defn.bed = d.bed)
  let m := { m with zones := m.zones.modify z fun x => x.redefine d now }
  if same then m else (m.stopBed z).startBed z

/-- DEFINE SOUND ZONE (R129). -/
def execDefineSoundZone (h : FrameHead) (b : SoundZoneBody) (s : State) : Host.Outcome State Fault Refusal :=
  s.request h 0x18 Gate.define fun s => match soundZoneOf b with
    | none => .refuse s .badBody
    | some (z, d, adjusted) =>
      if (s.sched.zoneClaims.get z).holder.isSome then .refuse s .inUse
      else .reply { s with mixer := s.mixer.define z d s.now } (doneOr adjusted) .empty

/-- PLAY CLIP (R137). -/
def execPlayClip (h : FrameHead) (zone : Nat) (clip : ClipId) (attenuation : Nat) (s : State) :
    Host.Outcome State Fault Refusal :=
  s.request h 0x32 Gate.free fun s => match s.serviceRefusal h.port with
    | some c => .refuse s c
    | none => match unit? 4 zone with
      | none => .refuse s .badBody
      | some z =>
        if attenuation = 255 then .reply (s.run fun w => w.silence z) .done .empty
        else if (s.mixer.defined clip).isNone then .refuse s .notDefined
        else if s.mixer.latch then .refuse s .storeFault
        else
          let item : ListedClip := { clip := clip, attenuation := min 80 attenuation, ctx := none, track := none }
          .reply (s.run fun w => w.cutAndStart z item) (doneOr (decide (80 < attenuation))) .empty

/-- ZONE_CHANGE_MIXER: the Mixer records the oldest change of a floor zone delivered to it (R15, R130). -/
def execZoneChangeMixer (z : FloorZone) (s : State) : Host.Outcome State Fault Refusal :=
  match takeZone z s.delivery.zoneMixer with
  | none => notDue s
  | some (x, rest) =>
    done { s with delivery := { s.delivery with zoneMixer := rest },
                  mixer := { s.mixer with occupied := s.mixer.occupied.set z (zoneOccupied x.state) } }

/-- A zone at the emergency stop (R136). -/
def Work.muteZone (w : Work) (z : SoundZone) : Work :=
  let playing := (w.zone z).voice.isSome
  let w := w.cutClips z
  let w := ({ w with mixer := w.mixer.stopBed z }).modZone z fun x =>
    { x with muted := true, duck := { start := 0, up := false, t0 := w.now } }
  if playing then w.push [.zoneSilent z] else w

/-- ESTOP_ON_MIXER: every zone is cut, its bed stopped and its mute set (R136). -/
def execEstopOnMixer (s : State) : Host.Outcome State Fault Refusal := match s.delivery.stopMixer with
  | .on :: rest =>
    let s := { s with delivery := { s.delivery with stopMixer := rest } }
    s.event fun w => w.each (units 4) Work.muteZone
  | _ => notDue s

/-- A zone at Resume (R136). -/
def Mixer.unmute (m : Mixer) (z : SoundZone) : Mixer :=
  ({ m with zones := m.zones.modify z fun x => { x with muted := false, ramp := .idle x.defn.base } }).startBed z

/-- RESUME_MIXER: the Resume reaches the Mixer (R136). -/
def execResumeMixer (s : State) : Host.Outcome State Fault Refusal := match s.delivery.stopMixer with
  | .resume :: rest =>
    done { s with delivery := { s.delivery with stopMixer := rest }, mixer := (units 4).foldl Mixer.unmute s.mixer }
  | _ => notDue s

/-- CLIP_END: a voice's clip plays out (R126, R131). -/
def execClipEnd (z : SoundZone) (s : State) : Host.Outcome State Fault Refusal := match (s.mixer.zones.get z).voice with
  | none => notDue s
  | some v =>
    if reached s.now (later v.started (ceilDiv v.buffer.length 24)) then s.event fun w => w.clipOver z else notDue s

/-! The Clip Reader. -/

/-- CLIP_READ_DONE: the flash answers a block read within 2 ms; the block is placed in its slot, unless the slot
was freed (R126, R127). -/
def execClipReadDone (s : State) : Host.Outcome State Fault Refusal := match s.mixer.read with
  | some { issued, target := .slot b slot, block } =>
    if 2 < elapsed s.now issued then notDue s
    else
      let m := { s.mixer with read := none }
      let m := slot.elim m fun i => m.modBuffer b (·.fill i (.filled (readBlock s.store.clips block)))
      done { s with mixer := m }
  | _ => notDue s

/-- CLIP_READ_TIMEOUT: a clip read is unanswered after 2 ms, and the clip store fault latch is set (R127, R128). -/
def execClipReadTimeout (s : State) : Host.Outcome State Fault Refusal := match s.mixer.read with
  | some { issued, target := .slot _ _, .. } =>
    if elapsed s.now issued < 2 then notDue s
    else s.event fun w => Work.setClipLatch { w with mixer := { w.mixer with read := none } }
  | _ => notDue s

/-- PROBE_DUE: while the latch is set a probe falls due every 500 ms; it is issued when the flash is free
(R128). -/
def execProbeDue (s : State) : Host.Outcome State Fault Refusal := match s.mixer.probeAt with
  | some due =>
    if s.mixer.latch && reached s.now due then
      done { s with mixer := { s.mixer with probeAt := some (later due 500), probeOwed := true } }
    else notDue s
  | none => notDue s

/-- PROBE_END: a probe is answered within 2 ms, or times out (R128). -/
def execProbeEnd (answered : Bool) (s : State) : Host.Outcome State Fault Refusal := match s.mixer.read with
  | some { issued, target := .probe, .. } =>
    if (if answered then decide (elapsed s.now issued ≤ 2) else decide (2 ≤ elapsed s.now issued)) then
      done { s with mixer := { s.mixer with read := none, answering := answered } }
    else notDue s
  | _ => notDue s

/-- ACK_CLIP_STORE: the Mixer answers a routed acknowledgement of the clip store latch (R128). -/
def execAckClipStore (p : Port) (s : State) : Host.Outcome State Fault Refusal := match s.ackUnit p .clipStore with
  | none => notDue s
  | some _ =>
    let o := ackOutcome s.mixer.latch (!s.mixer.answering)
    let r := s.run fun w => if o = .cleared then w.clearClipLatch else w
    done (r.ackAnswer p .clipStore o)

/-! Clips. -/

/-- The extents of every clip but one. -/
def otherExtents (clips : Table 256 ClipEntry) (clip : ClipId) : List (Nat × Nat) := extents (clips.set clip .empty)

/-- BEGIN CLIP (R124). -/
def execBeginClip (h : FrameHead) (clip : ClipId) (length : Nat) (s : State) : Host.Outcome State Fault Refusal :=
  s.request h 0x1C Gate.define fun s =>
    let enter (e : ClipEntry) : State := { s with mixer := { s.mixer with clips := s.mixer.clips.set clip e } }
    if s.mixer.anyPlaying then .refuse s .busy
    else if length = 0 then
      .reply (enter .empty) .done (.clipPlace 0 (freeBlocks (s.mixer.clips.set clip .empty)))
    else
      let n := min 16777215 length
      match lowestFree (otherExtents s.mixer.clips clip) (blocksFor n) with
      | none => .refuse s .noRoom
      | some start =>
        .reply (enter (.writing start n 0)) (doneOr (decide (16777215 < length)))
          (.clipPlace start (freeBlocks (s.mixer.clips.set clip (.writing start n 0))))

/-- WRITE CLIP: the bytes go to the Show Store, and the request stays pending (R125, R171). -/
def execWriteClip (h : FrameHead) (clip : ClipId) (offset count : Nat) (data : List Byte) (s : State) :
    Host.Outcome State Fault Refusal :=
  s.request h 0x1D Gate.define fun s =>
    if s.mixer.anyPlaying then .refuse s .busy
    else match s.mixer.clips.get clip with
      | .writing start length written =>
        if !within 1 240 count ∨ data.length ≠ count ∨ offset ≠ written ∨ 2 * length < offset + count then
          .refuse s .badBody
        else
          let x : ClipWrite := { port := h.port, clip := clip, offset := offset, data := data,
                                 address := 512 * start + offset, began := none }
          .hold { s with store := { s.store with writes := s.store.writes ++ [x],
                                                 queued := s.store.queued ++ [.clipWrite] } } .writeClip
      | _ => .refuse s .notDefined

/-- The clip-region write that holds the flash, and the run time it began. -/
def Store.writing (t : Store) : Option (ClipWrite × Stamp) := match t.held, t.writes with
  | some .clipWrite, x :: _ => x.began.map fun b => (x, b)
  | _, _ => none

/-- The Show Store has ended a clip-region write, and the flash is released. -/
def Store.writeOver (t : Store) (clips : List Host.Cell) (failed : Nat) : Store :=
  { t with held := none, writes := t.writes.drop 1, clips := clips, failedBytes := t.failedBytes + failed }

/-- The directory entry of a clip after bytes of it were written (R125). -/
def writtenEntry (x : ClipWrite) : ClipEntry → ClipEntry
  | .writing start length written =>
    if written ≠ x.offset then .writing start length written
    else if written + x.data.length = 2 * length then .defined start length
    else .writing start length (written + x.data.length)
  | e => e

/-- The Mixer learns that a clip-region write is done; a clip that is thereby DEFINED starts its beds (R125,
R133). -/
def Mixer.written (m : Mixer) (x : ClipWrite) : Mixer :=
  let was := (m.defined x.clip).isSome
  let m := { m with clips := m.clips.modify x.clip (writtenEntry x) }
  if was || (m.defined x.clip).isNone then m
  else ((units 4).filter fun z => decide ((m.zones.get z).defn.bed = some x.clip)).foldl Mixer.startBed m

/-- A clip-region write has failed: the reply is STORE_FAULT and the bytes written are unchanged in number; what
stands at its addresses is free (R125; assumption log 4). -/
def State.writeFailed (s : State) (x : ClipWrite) : State :=
  let n := x.data.length
  let clips := writeBytes s.store.clips x.address (freeBytes n s.store.failedBytes)
  { s with store := s.store.writeOver clips n }.answer x.port (replyKind 0x1D) .storeFault .empty

/-- CLIP_WRITE_END: the flash reports a clip-region write programmed or failed (R125, R171). -/
def execClipWriteEnd (ok : Bool) (s : State) : Host.Outcome State Fault Refusal := match s.store.writing with
  | none => notDue s
  | some (x, began) =>
    if 100 < elapsed s.now began then notDue s
    else if ok then
      let clips := writeBytes s.store.clips x.address x.data
      done ({ s with store := s.store.writeOver clips 0, mixer := s.mixer.written x }.answer x.port (replyKind 0x1D)
        .done .empty)
    else done (s.writeFailed x)

/-- CLIP_WRITE_TIMEOUT: a clip-region write has not completed 100 ms after it began (R171). -/
def execClipWriteTimeout (s : State) : Host.Outcome State Fault Refusal := match s.store.writing with
  | none => notDue s
  | some (x, began) => if elapsed s.now began < 100 then notDue s else done (s.writeFailed x)

/-! STORE SHOW (R172, R173). -/

/-- Every working definition as it stands (section 11.1). -/
def State.definitions (s : State) : Definitions :=
  { inputs := s.inputs.lines.map (·.profile), holds := s.inputs.zones.map (·.hold),
    scenes := s.sched.scenes.map (·.record), lists := s.cues, channels := s.light.channels.map (·.defn),
    lampGroups := s.light.groups.map (·.defn), axes := s.motion.axes.map (·.defn),
    soundZones := s.mixer.zones.map (·.defn), clips := s.mixer.clips, sensors := s.supervisor.sensors.map (·.defn),
    axisBindings := s.supervisor.axisBindings, trim := s.clock.trimPending, timetable := s.clock.timetable }

/-- STORE SHOW: a copy of every working definition is taken, and the store asks for the flash (R172). -/
def execStoreShow (h : FrameHead) (s : State) : Host.Outcome State Fault Refusal :=
  s.request h 0x1E Gate.define fun s =>
    .hold { s with store := { s.store with
                     job := some { port := h.port, copy := s.definitions, accepted := s.now },
                     queued := s.store.queued ++ [.store] } } .storeShow

/-- The image that holds these definitions (R171, R172). Its length counts the bytes that the CRC covers: section 11.1
names the length and the CRC among the parts of the image, and that the length counts neither is the model's choice
(assumption log 3). -/
def imageOf (d : Definitions) : FlashImage :=
  { bytes := Config.imageBytes d, lengthField := some (Config.imageBytes d).length,
    crcField := some (crc16 (Config.imageBytes d)), definitions := some d }

/-- STORE_DONE: the last stage is programmed; the flash is released and the reply gives the length and the CRC
(R172). -/
def execStoreDone (s : State) : Host.Outcome State Fault Refusal := match s.store.held, s.store.job with
  | some .store, some j =>
    if 3000 < elapsed s.now j.accepted then notDue s
    else
      let bytes := Config.imageBytes j.copy
      done ({ s with store := { s.store with held := none, job := none, image := imageOf j.copy } }.answer j.port
        (replyKind 0x1E) .done (.stored bytes.length (crc16 bytes)))
  | _, _ => notDue s

/-- The store has failed: the image is invalid, the flash is released and the working definitions stand (R173). -/
def Store.fail (t : Store) : Store :=
  { t with held := if t.held = some .store then none else t.held, queued := t.queued.filter (· ≠ .store), job := none,
           image := { t.image with lengthField := none, crcField := none } }

/-- STORE_FAILED: the flash reports a failure of the store, or the store has not ended 3 s after its acceptance
(R173). -/
def execStoreFailed (byFlash : Bool) (s : State) : Host.Outcome State Fault Refusal := match s.store.job with
  | none => notDue s
  | some j =>
    if (if byFlash then decide (s.store.held = some .store) else decide (3000 ≤ elapsed s.now j.accepted)) then
      done ({ s with store := s.store.fail }.answer j.port (replyKind 0x1E) .storeFault .empty)
    else notDue s

end Sys2Proof.Machine
end

