-- ==== Sys2Proof/Machine/Supervision.lean ====
section
/-! DEFINITION. The commands of the Supervisor (chapter 8): sensors and group bindings, the driver-fault and
emergency-stop lines, and ACKNOWLEDGE FAULTS. -/

namespace Sys2Proof.Machine

/-! Sensors (sections 8.1 and 8.2). -/

/-- Changes a sensor. -/
def State.modSensor (s : State) (n : Sensor) (f : SensorState → SensorState) : State :=
  { s with supervisor := { s.supervisor with sensors := s.supervisor.sensors.modify n f } }

/-- The state to which a valid reading takes a sensor (R141); temperatures are counts of 0.5 °C. -/
def nextThermal (d : SensorDef) (old : Thermal) (r : Int) : Thermal := match old with
  | .normal => if d.critical ≤ r then .critical else if d.hot ≤ r then .hot else .normal
  | .hot => if d.critical ≤ r then .critical else if r ≤ d.hot - 10 then .normal else .hot
  | .critical => if d.critical - 10 < r then .critical else if r ≤ d.hot - 10 then .normal else .hot

/-- A reading from -40.0 to +150.0 °C is valid; any other is INVALID (R140). -/
def readingOf (r : Int) : Reading := if -80 ≤ r ∧ r ≤ 300 then .valid r else .invalid

/-- The temperature of a reading, where it has one. -/
def Reading.halves? : Reading → Option Int
  | .absent => none
  | .invalid => none
  | .valid r => some r

/-- The state a reading makes: an INVALID one makes it CRITICAL (R142). -/
def SensorState.after (x : SensorState) : Reading → Thermal
  | .valid r => nextThermal x.defn x.thermal r
  | .invalid => .critical
  | .absent => x.thermal

/-- A sensor takes a reading: the last reading, the state, and the latches that entering a state and an INVALID
reading set (R140 to R142). -/
def SensorState.read (x : SensorState) (r : Reading) : SensorState :=
  let t := x.after r
  { x with reading := r, thermal := t, faultLatch := x.faultLatch || decide (r = .invalid),
           hotSeen := x.hotSeen || (decide (t ≠ x.thermal) && decide (t ≠ .normal)),
           criticalSeen := x.criticalSeen || (decide (t ≠ x.thermal) && decide (t = .critical)) }

/-- A sensor's change on its way to the three blocks (R143). -/
def Delivery.thermalChange (d : Delivery) (x : ThermalChange) : Delivery :=
  { d with thermalLighting := d.thermalLighting ++ [x], thermalMotion := d.thermalMotion ++ [x],
           thermalScheduler := d.thermalScheduler ++ [x] }

/-- The notices of a reading: a FAULT notice when the sensor fault latch is newly set, and a THERMAL notice of a
state change (R142, R143, R149). -/
def State.noteReading (s : State) (n : Sensor) (old new : SensorState) : State :=
  let s := if new.faultLatch && !old.faultLatch then s.note (.fault .sensor (unitNo n) false) else s
  if old.thermal = new.thermal then s
  else s.note (.thermal n old.thermal new.thermal (Reading.halves? new.reading)
                 (if new.reading = .invalid then .fault else .reading))

/-- SENSOR_READING: a fitted sensor is read, once at each sampling instant; a change is noted and delivered (R140
to R143). -/
def execSensorReading (n : Sensor) (reading : Int) (s : State) : Host.Outcome State Fault Refusal :=
  let old := s.supervisor.sensors.get n
  let new := old.read (readingOf reading)
  if !s.supervisor.toRead.contains n || !old.defn.fitted then notDue s
  else
    let s := s.modSensor n fun _ => new
    let s := { s with supervisor := { s.supervisor with toRead := s.supervisor.toRead.filter (· ≠ n) } }
    let s := s.noteReading n old new
    if old.thermal = new.thermal then done s
    else done { s with delivery := s.delivery.thermalChange { sensor := n, state := new.thermal, derate := old.defn.derate } }

/-- A sensor under a new definition: one that is not fitted loses its reading and is NORMAL; the latches stand
(R139). -/
def SensorState.redefine (x : SensorState) (d : SensorDef) : SensorState :=
  if d.fitted then { x with defn := d } else { x with defn := d, reading := .absent, thermal := .normal }

/-- A sensor's state and derate reach the three blocks within the event (R139, R143). -/
def Work.sensorTo (w : Work) (s : State) (n : Sensor) (state : Thermal) (derate : Nat) : Work :=
  let lamps := lampGroupsBound s.light n
  let axes := axisGroupsBound s.supervisor n
  ((w.heatLamps lamps state derate).heatAxes axes state derate).thermalToScheduler lamps axes state

/-- What an accepted DEFINE SENSOR publishes: a sensor made unfitted that was HOT or CRITICAL becomes NORMAL, and
a HOT sensor's new derate is delivered (R139, R143). A sensor that is not fitted derates nothing. -/
def Work.sensorDefined (w : Work) (s : State) (n : Sensor) (old : SensorState) (d : SensorDef) : Work :=
  if d.fitted then
    if old.thermal = .hot ∧ old.defn.derate ≠ d.derate then w.sensorTo s n .hot d.derate else w
  else if old.thermal = .normal then w
  else (w.note (.thermal n old.thermal .normal none .define)).sensorTo s n .normal 100

/-- DEFINE SENSOR (R139). -/
def execDefineSensor (h : FrameHead) (b : SensorBody) (s : State) : Host.Outcome State Fault Refusal :=
  s.request h 0x19 Gate.define fun s => match sensorOf b with
    | none => .refuse s .badBody
    | some (n, d, adjusted) =>
      let old := s.supervisor.sensors.get n
      let t := s.noThermals.modSensor n fun x => x.redefine d
      let t := { t with supervisor := { t.supervisor with
                          toRead := if d.fitted then t.supervisor.toRead else t.supervisor.toRead.filter (· ≠ n) } }
      .reply (t.run fun w => (s.takeThermals w).sensorDefined s n old d) (doneOr adjusted) .empty

/-- DEFINE AXIS GROUP: the binding, and what it changes is delivered at once (R144). -/
def execDefineAxisGroup (h : FrameHead) (group sensor : Nat) (s : State) : Host.Outcome State Fault Refusal :=
  s.request h 0x1A Gate.define fun s => match unit? 3 group, optUnit? 4 sensor with
    | some g, some n =>
      let old := boundThermal s.supervisor.sensors (s.supervisor.axisBindings.get g)
      let new := boundThermal s.supervisor.sensors n
      let t := { s.noThermals with supervisor := { s.supervisor with axisBindings := s.supervisor.axisBindings.set g n } }
      .reply (t.run fun w =>
        let w := s.takeThermals w
        if old = new then w else w.rebindAxes [g] new.1 new.2) .done .empty
    | _, _ => .refuse s .badBody

/-! Driver-fault lines (section 8.3). -/

/-- A group's driver-fault line. -/
def Supervisor.driver (v : Supervisor) : DriverGroup → DriverLine
  | .lamp g => v.lampLines.get g
  | .axis g => v.axisLines.get g

/-- Changes a group's driver-fault line. -/
def Supervisor.modDriver (v : Supervisor) (g : DriverGroup) (f : DriverLine → DriverLine) : Supervisor := match g with
  | .lamp g => { v with lampLines := v.lampLines.modify g f }
  | .axis g => { v with axisLines := v.axisLines.modify g f }

/-- Changes a group's driver-fault line in the part. -/
def State.modDriver (s : State) (g : DriverGroup) (f : DriverLine → DriverLine) : State :=
  { s with supervisor := s.supervisor.modDriver g f }

/-- The latch kind and unit of a group's driver-fault latch. -/
def driverLatch : DriverGroup → LatchKind × Nat
  | .lamp g => (.lampDriver, unitNo g)
  | .axis g => (.axisDriver, unitNo g)

/-- DRIVER_FAULT_LINE_CHANGE: a driver-fault line changes (R145). -/
def execDriverFaultLineChange (g : DriverGroup) (active : Bool) (s : State) : Host.Outcome State Fault Refusal :=
  if (s.supervisor.driver g).filter.line = active then notDue s
  else done (s.modDriver g fun l => { l with filter := l.filter.change active active s.now 5 })

/-- The enabled axes of a group are faulted in ascending order, the reports of each taken before the next (R114). -/
def Work.driverFault (w : Work) (g : AxisGroup) : Work :=
  w.each (axesOf g) fun w a =>
    if (w.axis a).defn.enabled then (w.driverFaultAxis a).drain Work.arrive eventBound else w

/-- A group's driver-fault line reaches the block that owns the group (R91, R114, R145). -/
def Work.driverLine (w : Work) (g : DriverGroup) (active : Bool) : Work := match g with
  | .lamp g => w.lampLine g active
  | .axis g => if active then (w.recordAxisLine g true).driverFault g else w.recordAxisLine g false

/-- A group's driver-fault latch, newly set, reaches the Scheduler and, for an axis group, the Motion Controller
(R145). -/
def Work.driverLatchSet (w : Work) : DriverGroup → Work
  | .lamp g => w.lampLatch g true
  | .axis g => (w.recordAxisLatch g true).axisLatch g true

/-- An accepted change to ACTIVE, in the order of R145. -/
def Work.driverActive (w : Work) (g : DriverGroup) (already : Bool) : Work :=
  let w := (w.note (.fault (driverLatch g).1 (driverLatch g).2 already)).driverLine g true
  if already then w else w.driverLatchSet g

/-- DRIVER_FAULT_FILTER_EXPIRY: a driver-fault line change is accepted; an INACTIVE first sample delivers nothing
(R145). -/
def execDriverFaultFilterExpiry (g : DriverGroup) (s : State) : Host.Outcome State Fault Refusal :=
  let l := s.supervisor.driver g
  let active := l.filter.line
  if !expired s.now l.filter.timer then notDue s
  else
    let s := s.modDriver g fun l => { filter := l.filter.accept active, latch := l.latch || active }
    if active then s.event fun w => w.driverActive g l.latch
    else if l.filter.seeded then s.event fun w => w.driverLine g false
    else done s

/-! The emergency-stop line (section 8.4). -/

/-- Changes the emergency-stop line's filter. -/
def State.modEstop (s : State) (f : Filter → Filter) : State :=
  { s with supervisor := { s.supervisor with estop := f s.supervisor.estop } }

/-- ESTOP_LINE_CHANGE: the emergency-stop line changes (R146). -/
def execEstopLineChange (active : Bool) (s : State) : Host.Outcome State Fault Refusal :=
  if s.supervisor.estop.line = active then notDue s
  else done (s.modEstop fun f => f.change active active s.now 5)

/-- "Emergency stop on" on its way to the five blocks (R146). -/
def Delivery.estopOn (d : Delivery) : Delivery :=
  { d with stopScheduler := d.stopScheduler ++ [.on], stopLighting := d.stopLighting ++ [.on],
           stopMotion := d.stopMotion ++ [.on], stopMixer := d.stopMixer ++ [.on], stopOwner := d.stopOwner ++ [.on] }

/-- "Emergency stop off" on its way to the Motion Controller, the one block on which it acts (R119, R146). -/
def Delivery.estopOff (d : Delivery) : Delivery := { d with stopMotion := d.stopMotion ++ [.off] }

/-- ESTOP_FILTER_EXPIRY: an emergency-stop line change is accepted and delivered; an INACTIVE first sample delivers
nothing (R146). -/
def execEstopFilterExpiry (s : State) : Host.Outcome State Fault Refusal :=
  let f := s.supervisor.estop
  if !expired s.now f.timer then notDue s
  else
    let s := s.modEstop fun f => f.accept f.line
    if f.line then done { s with delivery := s.delivery.estopOn }
    else if f.seeded then done { s with delivery := s.delivery.estopOff }
    else done s

/-! ACKNOWLEDGE FAULTS (section 8.5). -/

/-- The number of units of a latch kind. -/
def latchUnits : LatchKind → Nat
  | .lampDriver => 6
  | .axisDriver => 3
  | .sensor => 4
  | .hotSeen => 4
  | .criticalSeen => 4
  | .stuckInput => 16
  | .axisTravel => 12
  | .clipStore => 1

/-- The latches an entry of the list stands for; unit 0 stands for every unit of its kind (R147). -/
def expandLatch (e : Nat × Nat) : Option (List AckEntry) := do
  let kind ← code? 1 [LatchKind.lampDriver, .axisDriver, .sensor, .hotSeen, .criticalSeen, .stuckInput, .axisTravel,
                      .clipStore] e.1
  if latchUnits kind < e.2 then none
  else if e.2 = 0 then
    some ((List.range (latchUnits kind)).map fun k => { kind := kind, unit := k + 1, outcome := none })
  else some [{ kind := kind, unit := e.2, outcome := none }]

/-- The expanded list, or none where R147 refuses the request. -/
def expandLatches (count : Nat) (latches : List (Nat × Nat)) : Option (List AckEntry) :=
  if !within 1 32 count || latches.length != count then none
  else match latches.mapM expandLatch with
    | none => none
    | some l => if 64 < l.flatten.length then none else some l.flatten

/-- The acknowledgement of a group's driver-fault latch, and whether it was cleared (R148). -/
def Supervisor.ackDriver (v : Supervisor) (g : DriverGroup) : Supervisor × AckOutcome × List DriverGroup :=
  let l := v.driver g
  let o := ackOutcome l.latch l.filter.active
  if o = .cleared then (v.modDriver g fun l => { l with latch := false }, o, [g]) else (v, o, [])

/-- The acknowledgement of one of a sensor's latches (R148). -/
def Supervisor.ackSensor (v : Supervisor) (n : Sensor) (latch present : Bool) (clear : SensorState → SensorState) :
    Supervisor × AckOutcome × List DriverGroup :=
  let o := ackOutcome latch present
  if o = .cleared then ({ v with sensors := v.sensors.modify n clear }, o, []) else (v, o, [])

/-- The Supervisor's answer to an entry for a latch it owns: the latch, the outcome and the group whose latch was
cleared (R148); none for a latch of another block. -/
def Supervisor.acknowledge (v : Supervisor) (e : AckEntry) : Option (Supervisor × AckOutcome × List DriverGroup) :=
  match e.kind with
  | .lampDriver => (unit? 6 e.unit).map fun g => v.ackDriver (.lamp g)
  | .axisDriver => (unit? 3 e.unit).map fun g => v.ackDriver (.axis g)
  | .sensor => (unit? 4 e.unit).map fun n =>
      v.ackSensor n (v.sensors.get n).faultLatch (decide ((v.sensors.get n).reading = .invalid))
        fun x => { x with faultLatch := false }
  | .hotSeen => (unit? 4 e.unit).map fun n =>
      v.ackSensor n (v.sensors.get n).hotSeen (decide ((v.sensors.get n).thermal ≠ .normal))
        fun x => { x with hotSeen := false }
  | .criticalSeen => (unit? 4 e.unit).map fun n =>
      v.ackSensor n (v.sensors.get n).criticalSeen (decide ((v.sensors.get n).thermal = .critical))
        fun x => { x with criticalSeen := false }
  | .stuckInput => none
  | .axisTravel => none
  | .clipStore => none

/-- The Supervisor takes the entries in list order: its own are answered, the others left to their owners (R147). -/
def Supervisor.acknowledgeAll (v : Supervisor) : List AckEntry → Supervisor × List AckEntry × List DriverGroup
  | [] => (v, [], [])
  | e :: rest => match v.acknowledge e with
    | none =>
      let r := v.acknowledgeAll rest
      (r.1, e :: r.2.1, r.2.2)
    | some (v', o, gs) =>
      let r := v'.acknowledgeAll rest
      (r.1, { e with outcome := some o } :: r.2.1, gs ++ r.2.2)

/-- The clearing of a group's driver-fault latch is delivered (R115, R148). -/
def Work.driverLatchGone (w : Work) : DriverGroup → Work
  | .lamp g => w.lampLatch g false
  | .axis g => ((w.recordAxisLatch g false).driverLatchCleared g).axisLatch g false

/-- ACKNOWLEDGE FAULTS: the Supervisor answers its own latches; the request stays pending while an entry is left
to another block (R147, R148). -/
def execAcknowledgeFaults (h : FrameHead) (count : Nat) (latches : List (Nat × Nat)) (s : State) :
    Host.Outcome State Fault Refusal :=
  s.request h 0x28 Gate.owned fun s => match expandLatches count latches with
    | none => .refuse s .badBody
    | some entries =>
      let r := s.supervisor.acknowledgeAll entries
      let t := State.run { s with supervisor := r.1 } fun w => w.each r.2.2 Work.driverLatchGone
      if r.2.1.all fun e => e.outcome.isSome then .reply t .done (.acks r.2.1) else .hold t (.acknowledge r.2.1)

end Sys2Proof.Machine
end

