-- ==== Sys2Proof/Machine/Timekeeping.lean ====
section
/-! DEFINITION. The commands of the Show Clock (chapter 9), and what the end of a millisecond does in every block
that counts milliseconds. -/

namespace Sys2Proof.Machine

/-- DEFINE TIMETABLE ENTRY (R156). -/
def execDefineTimetableEntry (h : FrameHead) (b : TimetableBody) (s : State) : Host.Outcome State Fault Refusal :=
  s.request h 0x1B Gate.define fun s => match timetableOf b with
    | none => .refuse s .badBody
    | some (e, x) => .reply { s with clock := { s.clock with timetable := s.clock.timetable.set e x } } .done .empty

/-- SET TRIM (R152). -/
def execSetTrim (h : FrameHead) (trim : Int) (s : State) : Host.Outcome State Fault Refusal :=
  s.request h 0x2A Gate.owned fun s =>
    let t := clampInt (-512) 511 trim
    .reply { s with clock := { s.clock with trimPending := t } } (doneOr (decide (t ≠ trim))) (.trims t s.clock.trimInUse)

/-! The timetable (sections 9.3 and 9.4). -/

/-- A minute of the week: weekdays of 1440 minutes. -/
def weekMinute (day : Weekday) (minute : Nat) : Nat := day.val * 1440 + minute

/-- The minutes from a firing back in the week to the present minute, itself included as 0 (R158). -/
def minutesBack (now then' : Nat) : Nat := (now + 10080 - then') % 10080

/-- An entry opens or closes the show. -/
def setsMode : TimetableAction → Bool
  | .openShow => true
  | .closeShow => true
  | .start _ => false

/-- The firings of the OPEN and CLOSE entries of a week, in ascending entry number (R158). -/
def modeFirings (t : Table 32 (Option TimetableEntry)) : List (EntryId × TimetableEntry × Weekday) :=
  (units 32).flatMap fun e => match t.get e with
    | none => []
    | some x => if setsMode x.action then x.days.map fun d => (e, x, d) else []

/-- The entry of the catch-up: the latest firing, and among those of one minute the highest entry (R158). -/
def catchUp (t : Table 32 (Option TimetableEntry)) (now : TimeOfDay) : Option (EntryId × TimetableEntry × Weekday) :=
  let age (x : EntryId × TimetableEntry × Weekday) : Nat :=
    minutesBack (weekMinute now.weekday (now.seconds / 60)) (weekMinute x.2.2 x.2.1.minute)
  (modeFirings t).foldl (fun best x => match best with
    | none => some x
    | some y => if age x ≤ age y then some x else some y) none

/-- The catch-up is applied: the CLOCK notice, then the action (R158). -/
def Work.applyEntry (w : Work) (x : EntryId × TimetableEntry × Weekday) : Work :=
  (w.note (.clock true x.1 x.2.1.action x.2.2 x.2.1.minute)).timetable x.1 x.2.1.action

/-- The Clock takes a time: valid from now on, with a new second begun (R155). -/
def Clock.setTime (c : Clock) (t : TimeOfDay) : Clock :=
  { c with time := some t, phase := 0, trimInUse := c.trimPending }

/-- SET TIME (R155, R158). -/
def execSetTime (h : FrameHead) (timeOfDay weekday : Nat) (s : State) : Host.Outcome State Fault Refusal :=
  s.request h 0x29 Gate.owned fun s => match unit? 7 weekday with
    | none => .refuse s .badBody
    | some d =>
      if 86399 < timeOfDay then .refuse s .badBody
      else
        let t : TimeOfDay := { seconds := timeOfDay, weekday := d }
        let x := catchUp s.clock.timetable t
        .reply (State.run { s with clock := s.clock.setTime t } fun w => x.elim w w.applyEntry) .done
          (.timeSet t (x.map (·.1)))

/-- The entries that fire on entering a minute of a day, in ascending order (R157). -/
def firingEntries (t : Table 32 (Option TimetableEntry)) (now : TimeOfDay) : List (EntryId × TimetableEntry) :=
  (units 32).filterMap fun e => (t.get e).bind fun x =>
    if x.minute * 60 = now.seconds ∧ now.weekday ∈ x.days then some (e, x) else none

/-- An entry fires: its CLOCK notice, its action, and all that the Scheduler makes of it before the next (R157). -/
def Work.fire (w : Work) (day : Weekday) (x : EntryId × TimetableEntry) : Work :=
  ((w.note (.clock false x.1 x.2.action day x.2.minute)).timetable x.1 x.2.action).settle.sealNotices

/-! The millisecond (R151, R153, R154). -/

/-- The reference periods of the millisecond of a phase under a trim (R151). -/
def msPeriods (trim : Int) (phase : Nat) : Nat :=
  if 0 < trim ∧ (phase : Int) < trim then 4095 else if trim < 0 ∧ phase < trim.natAbs then 4097 else 4096

/-- A day's next second; at midnight the weekday advances first (R154). -/
def TimeOfDay.next (t : TimeOfDay) : TimeOfDay :=
  if t.seconds < 86399 then { t with seconds := t.seconds + 1 } else { seconds := 0, weekday := t.weekday + 1 }

/-- The Clock at the end of a millisecond (R151, R153, R154). -/
def Clock.tick (c : Clock) : Clock :=
  let c := { c with runTime := c.runTime + 1, periods := c.periods + msPeriods c.trimInUse c.phase }
  if c.phase < 999 then { c with phase := c.phase + 1 }
  else { c with phase := 0, trimInUse := c.trimPending, time := c.time.map TimeOfDay.next }

/-- The minute that the end of a millisecond enters, if firing is enabled and the time valid (R154, R157). -/
def Clock.entered (c : Clock) : Option TimeOfDay :=
  if c.phase = 999 ∧ c.firing then (c.tick.time).filter fun t => decide (t.seconds % 60 = 0) else none

/-- An input's held time counts while it is ACTIVE (section 1.1). -/
def InputLine.tick (l : InputLine) : InputLine := if l.active then { l with held := countUp l.held } else l

/-- The Supervisor at a run time: at a sampling instant every fitted sensor is to be read (R140). -/
def Supervisor.tick (v : Supervisor) (now : Stamp) : Supervisor := match v.nextSample with
  | some due =>
    if reached now due then { v with nextSample := some (later due 500), toRead := fittedSensors v.sensors } else v
  | none => v

/-- The part after a millisecond, before the timetable fires: the audio outputs give that millisecond's samples,
the Clock advances, and what counts milliseconds counts (R126, R135, R140, R151). -/
def State.tick (s : State) : State :=
  let c := s.clock.tick
  { s with clock := c, mixer := s.mixer.millisecond s.now, supervisor := s.supervisor.tick c.runTime,
           inputs := { s.inputs with lines := s.inputs.lines.map InputLine.tick } }

/-- CLOCK_MILLISECOND: a trimmed millisecond ends, and the entries of a minute thereby entered fire (R151, R157). -/
def execClockMillisecond (s : State) : Host.Outcome State Fault Refusal := match s.clock.entered with
  | none => done s.tick
  | some t =>
    s.tick.event fun w => w.each (firingEntries s.clock.timetable t) fun w x => w.fire t.weekday x

end Sys2Proof.Machine
end

