-- ==== Sys2Proof/Machine/VisitorInputs.lean ====
section
/-! DEFINITION. The Input Conditioner (chapter 1): the defines and the collection, the lines and their debounce,
presses, stuck buttons and floor zones. -/

namespace Sys2Proof.Machine

/-! Floor zones (section 1.6). -/

/-- A floor zone's change goes to the three blocks that take it (R15). -/
def Delivery.zoneChange (d : Delivery) (x : ZoneChange) : Delivery :=
  { d with zoneScheduler := d.zoneScheduler ++ [x], zoneMotion := d.zoneMotion ++ [x], zoneMixer := d.zoneMixer ++ [x] }

/-- A floor zone takes a state; a change is delivered, after that of the zone it follows in this event, if any
(R13 to R15). -/
def State.zoneTo (s : State) (z : FloorZone) (to' : ZoneState) (expiry : Option Stamp) (follows : Option FloorZone) :
    State :=
  let was := (s.inputs.zones.get z).state
  let s := { s with inputs := { s.inputs with zones := s.inputs.zones.modify z fun x => { x with state := to', expiry := expiry } } }
  if was = to' then s else { s with delivery := s.delivery.zoneChange { zone := z, state := to', follows := follows } }

/-- A floor zone is evaluated from its members as they stand (R13, R14). -/
def State.reviewZone (s : State) (z : FloorZone) (follows : Option FloorZone) : State :=
  let x := s.inputs.zones.get z
  if (membersOf s.inputs.lines z).isEmpty then s.zoneTo z .clear none follows
  else match x.state, anyMemberActive s.inputs.lines z with
    | .clear, true => s.zoneTo z .occupied none follows
    | .holding, true => s.zoneTo z .occupied none follows
    | .occupied, true => s
    | .occupied, false =>
      if x.hold = 0 then s.zoneTo z .clear none follows else s.zoneTo z .holding (some (later s.now x.hold)) follows
    | .clear, false => s
    | .holding, false => s

/-- The floor zone of which an input with this profile is a member (R12). -/
def memberZone (p : InputProfile) : Option FloorZone := if p.role = .presence then p.zone else none

/-! Inputs. -/

/-- Changes an input. -/
def State.modInput (s : State) (i : InputId) (f : InputLine → InputLine) : State :=
  { s with inputs := { s.inputs with lines := s.inputs.lines.modify i f } }

/-- The filtered level takes a sense, with the active-since stamp and held time that go with it; an INACTIVE
input has no stuck run (R2, R4, R5). -/
def InputLine.take (l : InputLine) (active : Bool) (now : Stamp) : InputLine :=
  { l with active := active, debounce := none, seeded := true, since := if active then some now else none, held := 0,
           stuckRun := l.stuckRun && active }

/-- An input starts again under a new profile (R2). -/
def InputLine.redefine (l : InputLine) (p : InputProfile) (now : Stamp) : InputLine :=
  { l.take (decide (p.role ≠ .unused) && sense p.polarity l.high) now with profile := p, stuckRun := false }

/-- An input's profile has changed from a member of `old` to a member of `new`: the zone it left is evaluated first, and
its change, if any, is delivered before the other's (R14). -/
def State.reviewMoved (s : State) (old new : Option FloorZone) : State :=
  let t := old.elim s fun z => s.reviewZone z none
  let left := old.filter fun z => decide ((s.inputs.zones.get z).state ≠ (t.inputs.zones.get z).state)
  if old = new then t else new.elim t fun z => t.reviewZone z left

/-- DEFINE INPUT (R1, R2, R14). -/
def execDefineInput (h : FrameHead) (b : InputBody) (s : State) : Host.Outcome State Fault Refusal :=
  s.request h 0x10 Gate.define fun s => match inputOf b with
    | none => .refuse s .badBody
    | some (i, p, adjusted) =>
      let old := memberZone (s.inputs.lines.get i).profile
      let new := memberZone p
      .reply ((s.modInput i fun l => l.redefine p s.now).reviewMoved old new) (doneOr adjusted) .empty

/-- DEFINE ZONE (R12). -/
def execDefineZone (h : FrameHead) (zone hold : Nat) (s : State) : Host.Outcome State Fault Refusal :=
  s.request h 0x11 Gate.define fun s => match unit? 8 zone with
    | none => .refuse s .badBody
    | some z =>
      .reply { s with inputs := { s.inputs with zones := s.inputs.zones.modify z fun x => { x with hold := min 30000 hold } } }
        (doneOr (decide (30000 < hold))) .empty

/-- The press record of an input. -/
def pressRecord (l : InputLine) : PressRecord := { count := l.count, capture := l.capture }

/-- An input with its press record cleared (R11). -/
def InputLine.collected (l : InputLine) : InputLine := { l with count := 0, capture := Capture.clear }

/-- COLLECT PRESSES (R11). -/
def execCollectPresses (h : FrameHead) (s : State) : Host.Outcome State Fault Refusal :=
  s.request h 0x27 Gate.owned fun s =>
    .reply { s with inputs := { s.inputs with lines := s.inputs.lines.map InputLine.collected } } .done
      (.presses (s.inputs.lines.rows.map pressRecord))

/-- ACK_STUCK_INPUT: the Input Conditioner answers a routed acknowledgement of a stuck latch (R10). -/
def execAckStuckInput (p : Port) (s : State) : Host.Outcome State Fault Refusal :=
  match (s.ackUnit p .stuckInput).bind (unit? 16) with
  | none => notDue s
  | some i =>
    let l := s.inputs.lines.get i
    let s := s.modInput i fun l => { l with stuckLatch := l.stuckLatch && l.stuckRun }
    done (s.ackAnswer p .stuckInput (ackOutcome l.stuckLatch l.stuckRun))

/-- A raw level as the line's debounce takes it: before the first sample every change restarts the timer; after
it the timer runs while the sense differs from the filtered level (R3, R4). -/
def InputLine.change (l : InputLine) (high : Bool) (now : Stamp) : InputLine :=
  let due := later now l.profile.debounce
  if l.profile.role = .unused then { l with high := high }
  else if l.seeded then
    { l with high := high, debounce := if sense l.profile.polarity high = l.active then none else some due }
  else { l with high := high, debounce := l.debounce.map fun _ => due }

/-- INPUT_LINE_CHANGE: a visitor input's raw level changes (R3, R4). -/
def execInputLineChange (i : InputId) (high : Bool) (s : State) : Host.Outcome State Fault Refusal :=
  if (s.inputs.lines.get i).high = high then notDue s else done (s.modInput i fun l => l.change high s.now)

/-- The capture record after a press (R7). -/
def captured (mode : CaptureMode) (c : Capture) (now : Stamp) (time : Option TimeOfDay) : Capture :=
  if mode = .latest ∨ !c.pending then { pending := true, stamp := some now, time := time } else c

/-- A press: the count, the capture record, the PRESS notice and the scene request, in that order (R5 to R8). -/
def State.press (s : State) (i : InputId) : State :=
  let s := s.modInput i fun l =>
    { l with count := countUp l.count, capture := captured l.profile.capture l.capture s.now s.clock.time }
  let l := s.inputs.lines.get i
  let s := if l.profile.notify then s.note (.press i l.count l.capture l.profile.scene) else s
  match l.profile.scene with
  | some scene => s.run fun w => w.arrive scene (.visitor i)
  | none => s

/-- DEBOUNCE_EXPIRY: the filtered level takes the raw sense, as the first seed after start-up or as an accepted
change, which on a BUTTON becoming ACTIVE is a press (R3 to R5). -/
def execDebounceExpiry (i : InputId) (s : State) : Host.Outcome State Fault Refusal :=
  let l := s.inputs.lines.get i
  if !expired s.now l.debounce then notDue s
  else
    let active := sense l.profile.polarity l.high
    let isPress := decide (l.profile.role = .button) && l.seeded && active && !l.stuckRun
    let s := s.modInput i fun l => l.take active s.now
    let s := (memberZone l.profile).elim s fun z => s.reviewZone z none
    done (if isPress then s.press i else s)

/-- The stuck timer of an input has expired (R9). -/
def InputLine.stuckDue (l : InputLine) (now : Stamp) : Bool :=
  decide (l.profile.role = .button) && l.active && !l.stuckRun &&
    l.since.any fun t => reached now (later t (l.profile.stuckLimit * 1000))

/-- STUCK_EXPIRY: the stuck run and latch are set and a FAULT notice is placed (R9, R149). -/
def execStuckExpiry (i : InputId) (s : State) : Host.Outcome State Fault Refusal :=
  let l := s.inputs.lines.get i
  if !l.stuckDue s.now then notDue s
  else
    done ((s.modInput i fun l => { l with stuckRun := true, stuckLatch := true }).note
      (.fault .stuckInput (unitNo i) l.stuckLatch))

/-- HOLD_EXPIRY: a floor zone's hold expires and the zone becomes CLEAR (R13). -/
def execHoldExpiry (z : FloorZone) (s : State) : Host.Outcome State Fault Refusal :=
  if (s.inputs.zones.get z).state = .holding ∧ expired s.now (s.inputs.zones.get z).expiry then
    done (s.zoneTo z .clear none none)
  else notDue s

end Sys2Proof.Machine
end

