-- ==== Sys2Proof/Machine/Reception.lean ====
section
/-! DEFINITION. The receivers (section 10.1): bytes, frames and their check, and the decoding of a request frame by
its kind (R160, R161, R177). A body whose layout chapter 12 does not give is read by Config.requestFields
(assumption log 5). -/

namespace Sys2Proof.Machine

/-! Discarded and damaged frames. -/

/-- A port's receiver takes a state. -/
def State.receive (s : State) (p : Port) (r : Receiver) : State := s.modPort p fun x => { x with receiver := r }

/-- FRAME_TIMER_EXPIRY: a frame not complete when its timer expires is discarded with no reply (R160). -/
def execFrameTimerExpiry (p : Port) (s : State) : Host.Outcome State Fault Refusal := match (s.port p).receiver with
  | .hunting => notDue s
  | .collecting _ expiry => if reached s.now expiry then done (s.receive p .hunting) else notDue s

/-- BAD_FRAME: a complete frame whose check is wrong is answered at once, unless three replies wait (R161, R162,
R177). -/
def execBadFrame (p : Port) (s : State) : Host.Outcome State Fault Refusal :=
  if 3 ≤ (s.port p).replies.length then done s else done (s.reply p 0xFF#8 .badFrame .empty)

/-- UNKNOWN_KIND: a frame whose kind is no request of this link is answered with the kind received (R163, R177). -/
def execUnknownKind (p : Port) (kind : Byte) (s : State) : Host.Outcome State Fault Refusal :=
  if isRequestKind p kind.toNat then notDue s
  else s.takeFrame p kind.toNat false fun s => done (s.reply p 0xFF#8 .unknownKind (.kindByte kind))

/-! Request bodies (section 12.5). -/

/-- A byte of a body. -/
def byteAt (body : List Byte) (i : Nat) : Nat := (body.getD i 0#8).toNat

/-- A little-endian number of `n` bytes in a body. -/
def natAt (body : List Byte) (i n : Nat) : Nat := leNat ((body.drop i).take n)

/-- A DEFINE INPUT body. -/
def inputBody (b : List Byte) : InputBody :=
  { input := byteAt b 0, role := byteAt b 1, polarity := byteAt b 2, debounce := byteAt b 3, zone := byteAt b 4,
    scene := byteAt b 5, capture := byteAt b 6, stuckLimit := natAt b 7 2, notify := byteAt b 9 }

/-- The tracks a DEFINE SCENE body has room for. -/
def trackBodies : Nat → List Byte → List TrackBody
  | 0, _ => []
  | n + 1, list :: mode :: passes :: rest =>
    { list := list.toNat, mode := mode.toNat, passes := passes.toNat } :: trackBodies n rest
  | _ + 1, _ => []

/-- A DEFINE SCENE body. -/
def sceneBody (b : List Byte) : SceneBody :=
  { scene := byteAt b 0, trackCount := byteAt b 1, enabled := byteAt b 2, priority := byteAt b 3, lamps := natAt b 4 6,
    axes := natAt b 10 2, zones := byteAt b 12, mask := byteAt b 13, audience := byteAt b 14, readyLine := byteAt b 15,
    waitLimit := byteAt b 16, maxRun := natAt b 17 2, release := natAt b 19 2, rest := natAt b 21 2,
    followOn := byteAt b 23, tracks := trackBodies (byteAt b 1) (b.drop 24) }

/-- The cue records of a WRITE CUES body. -/
def cueBodies : Nat → List Byte → List CueBody
  | 0, _ => []
  | n + 1, d0 :: d1 :: kind :: flags :: p0 :: p1 :: p2 :: p3 :: p4 :: p5 :: rest =>
    { delta := d1 ++ d0, kind := kind, flags := flags, p0 := p0, p1 := p1, p2 := p2, p3 := p3, p4 := p4, p5 := p5 } ::
      cueBodies n rest
  | _ + 1, _ => []

/-- A DEFINE AXIS body. -/
def axisBody (b : List Byte) : AxisBody :=
  { axis := byteAt b 0, enabled := byteAt b 1, min := natAt b 2 2, max := natAt b 4 2, home := natAt b 6 2,
    maxSpeed := natAt b 8 2, accel := natAt b 10 2, emergency := natAt b 12 2, homingSpeed := natAt b 14 2,
    returnPercent := byteAt b 16, guardZone := byteAt b 17, guardAction := byteAt b 18, creep := natAt b 19 2,
    sense := byteAt b 21 }

/-- A clip number from a field. -/
def clipField (v : Int) : ClipId := Fin.ofNat 256 v.toNat

/-- The entries of an ACKNOWLEDGE FAULTS from its fields. -/
def latchFields : List Int → List (Nat × Nat)
  | k :: u :: rest => (k.toNat, u.toNat) :: latchFields rest
  | _ => []

/-! Requests by kind (section 12.2). -/

/-- A query from its frame. That QUERY STATUS, QUERY ZONES, QUERY LEVELS, QUERY AXES, QUERY HEALTH and QUERY CLOCK,
whose rules name no field, have a body of length 0 is the model's choice (R177; assumption log 5). -/
def State.queryFrame (s : State) (p : Port) (kind : Nat) (body : List Byte) : Host.Outcome State Fault Refusal :=
  let empty : FrameHead := { port := p, lengthOk := body.isEmpty }
  let f := Config.requestFields kind body
  let h : FrameHead := { port := p, lengthOk := f.1 }
  let n (i : Nat) : Nat := (f.2.getD i 0).toNat
  match kind with
  | 0x01 => execQueryStatus empty s
  | 0x02 => execQueryZones empty s
  | 0x03 => execQueryScene h (n 0) s
  | 0x04 => execQueryQueue { port := p, lengthOk := decide (body.length = 1) } (byteAt body 0) s
  | 0x05 => execQueryTracks h (n 0) s
  | 0x06 => execReadCues h (n 0) (n 1) (n 2) s
  | 0x07 => execQueryLevels empty s
  | 0x08 => execQueryAxes empty s
  | 0x09 => execQueryAudio h (f.2.head?.map clipField) s
  | 0x0A => execQueryHealth empty s
  | 0x0B => execQueryClock empty s
  | _ => execUnknownKind p (BitVec.ofNat 8 kind) s

/-- A define request, a clip request or a store from its frame. -/
def State.defineFrame (s : State) (p : Port) (kind : Nat) (body : List Byte) : Host.Outcome State Fault Refusal :=
  let head (ok : Bool) : FrameHead := { port := p, lengthOk := ok }
  let f := Config.requestFields kind body
  let h := head f.1
  let v (i : Nat) : Int := f.2.getD i 0
  let n (i : Nat) : Nat := (v i).toNat
  match kind with
  | 0x10 => execDefineInput (head (decide (body.length = 10))) (inputBody body) s
  | 0x11 => execDefineZone h (n 0) (n 1) s
  | 0x12 => execDefineScene (head (decide (body.length = 24 + 3 * byteAt body 1))) (sceneBody body) s
  | 0x13 => execSizeCueList h (n 0) (n 1) s
  | 0x14 => execWriteCues (head (decide (body.length = 4 + 10 * byteAt body 3))) (byteAt body 0) (natAt body 1 2)
      (byteAt body 3) (cueBodies (byteAt body 3) (body.drop 4)) s
  | 0x15 => execDefineChannel h { channel := n 0, base := n 1, curve := n 2, floor := n 3, safe := n 4 } s
  | 0x16 => execDefineLampGroup h { group := n 0, master := n 1, response := n 2, hold := n 3, sensor := n 4 } s
  | 0x17 => execDefineAxis (head (decide (body.length = 22))) (axisBody body) s
  | 0x18 => execDefineSoundZone h
      { zone := n 0, floor := n 1, bed := n 2, base := n 3, depth := n 4, ramp := n 5 } s
  | 0x19 => execDefineSensor h { sensor := n 0, fitted := n 1, hot := v 2, critical := v 3, derate := v 4 } s
  | 0x1A => execDefineAxisGroup h (n 0) (n 1) s
  | 0x1B => execDefineTimetableEntry h { entry := n 0, days := n 1, minute := n 2, action := n 3, scene := n 4 } s
  | 0x1C => execBeginClip h (clipField (v 0)) (n 1) s
  | 0x1D => execWriteClip h (clipField (v 0)) (n 1) (n 2) ((f.2.drop 3).map fun x => BitVec.ofInt 8 x) s
  | 0x1E => execStoreShow (head body.isEmpty) s
  | _ => execUnknownKind p (BitVec.ofNat 8 kind) s

/-- A request to the running show from its frame. That OPEN SHOW, RESUME SHOW and GIVE BACK, whose rules name no field,
have a body of length 0 is the model's choice (R177; assumption log 5). -/
def State.showFrame (s : State) (p : Port) (kind : Nat) (body : List Byte) : Host.Outcome State Fault Refusal :=
  let empty : FrameHead := { port := p, lengthOk := body.isEmpty }
  let f := Config.requestFields kind body
  let h : FrameHead := { port := p, lengthOk := f.1 }
  let v (i : Nat) : Int := f.2.getD i 0
  let n (i : Nat) : Nat := (v i).toNat
  match kind with
  | 0x20 => execOpenShow empty s
  | 0x21 => execCloseShow h (n 0) s
  | 0x22 => execResumeShow empty s
  | 0x23 => execStartScene h (n 0) s
  | 0x24 => execStopScene h (n 0) (n 1) s
  | 0x25 => execEnableScene h (n 0) s
  | 0x26 => execDisableScene h (n 0) s
  | 0x27 => execCollectPresses empty s
  | 0x28 => execAcknowledgeFaults h (n 0) (latchFields (f.2.drop 1)) s
  | 0x29 => execSetTime h (n 0) (n 1) s
  | 0x2A => execSetTrim h (v 0) s
  | 0x2B => execSetMaster h (n 0) (n 1) s
  | 0x2C => execSetBase h (n 0) (n 1) (n 2) (n 3) s
  | 0x2D => execHomeAxes { port := p, lengthOk := decide (body.length = 2) } (natAt body 0 2) s
  | 0x2E => execRestart empty s
  | 0x30 => execTestLevel h (n 0) (n 1) (f.2[2]?.map Int.toNat) s
  | 0x31 => execJogAxis h (n 0) (n 1) (n 2) s
  | 0x32 => execPlayClip h (n 0) (clipField (v 1)) (n 2) s
  | 0x38 => execTakeControl f.1 (n 0) s
  | 0x39 => execGiveBack body.isEmpty s
  | _ => execUnknownKind p (BitVec.ofNat 8 kind) s

/-- A complete frame with a good check, by its kind. -/
def State.frame (s : State) (p : Port) (kind : Byte) (body : List Byte) : Host.Outcome State Fault Refusal :=
  if !isRequestKind p kind.toNat then execUnknownKind p kind s
  else if kind.toNat < 0x10 then s.queryFrame p kind.toNat body
  else if kind.toNat < 0x20 then s.defineFrame p kind.toNat body
  else s.showFrame p kind.toNat body

/-! Bytes (R160). -/

/-- What a byte does to a receiver: it hunts or collects on, or a frame is complete. -/
inductive Collected where
  | receiver (r : Receiver)
  | complete (bytes : List Byte)
  deriving DecidableEq, Repr

/-- A receiver takes a byte. `bytes` are those after the sync byte, the length first (R160). -/
def Receiver.take (r : Receiver) (now : Stamp) (byte : Byte) (stopBitOk : Bool) : Collected := match r with
  | .hunting => .receiver (if byte = 0xA5#8 ∧ stopBitOk then .collecting [] (later now 25) else .hunting)
  | .collecting bytes expiry =>
    if !stopBitOk then .receiver .hunting
    else
      let all := bytes ++ [byte]
      let length := (all.headD 0#8).toNat
      if length = 0 ∨ 250 < length then .receiver .hunting
      else if all.length = length + 3 then .complete all
      else .receiver (.collecting all expiry)

/-- A complete frame is taken: a wrong check is answered BAD_FRAME, and a good one gives a request (R161). -/
def State.completeFrame (s : State) (p : Port) (bytes : List Byte) : Host.Outcome State Fault Refusal :=
  let covered := bytes.take (bytes.length - 2)
  let check := bytes.drop (bytes.length - 2)
  if (crc16 covered).toNat = leNat check then s.frame p (covered.getD 1 0#8) (covered.drop 2) else execBadFrame p s

/-- BYTE_ARRIVAL: a byte arrives at a port's receiver, and the last byte of a frame hands it over (R160, R161). -/
def execByteArrival (p : Port) (byte : Byte) (stopBitOk : Bool) (s : State) : Host.Outcome State Fault Refusal :=
  match (s.port p).receiver.take s.now byte stopBitOk with
  | .receiver r => done (s.receive p r)
  | .complete bytes => State.completeFrame (s.receive p .hunting) p bytes

end Sys2Proof.Machine
end

