-- ==== Sys2Proof/Machine/Dispatch.lean ====
section
/-! DEFINITION. The meaning of each command, one arm for each row of the opcode table. -/

namespace Sys2Proof.Machine

/-- The effect of a command on everything but the queue. -/
def exec (i : Instr) (s : State) : Host.Outcome State Fault Refusal :=
  match i with
  | .powerOn strap found => Sys2Proof.Machine.execPowerOn strap found s
  | .loadEnd readFailed => Sys2Proof.Machine.execLoadEnd readFailed s
  | .imageReadTimeout => Sys2Proof.Machine.execImageReadTimeout s
  | .frameTimerExpiry p => Sys2Proof.Machine.execFrameTimerExpiry p s
  | .badFrame p => Sys2Proof.Machine.execBadFrame p s
  | .unknownKind p kind => Sys2Proof.Machine.execUnknownKind p kind s
  | .transmitDone p => Sys2Proof.Machine.execTransmitDone p s
  | .queryStatus h => Sys2Proof.Machine.execQueryStatus h s
  | .queryZones h => Sys2Proof.Machine.execQueryZones h s
  | .queryScene h scene => Sys2Proof.Machine.execQueryScene h scene s
  | .queryQueue h part => Sys2Proof.Machine.execQueryQueue h part s
  | .queryTracks h ctx => Sys2Proof.Machine.execQueryTracks h ctx s
  | .readCues h list offset count => Sys2Proof.Machine.execReadCues h list offset count s
  | .queryLevels h => Sys2Proof.Machine.execQueryLevels h s
  | .queryAxes h => Sys2Proof.Machine.execQueryAxes h s
  | .queryAudio h clip => Sys2Proof.Machine.execQueryAudio h clip s
  | .queryHealth h => Sys2Proof.Machine.execQueryHealth h s
  | .healthPartGathered p part => Sys2Proof.Machine.execHealthPartGathered p part s
  | .queryClock h => Sys2Proof.Machine.execQueryClock h s
  | .defineInput h b => Sys2Proof.Machine.execDefineInput h b s
  | .defineZone h zone hold => Sys2Proof.Machine.execDefineZone h zone hold s
  | .defineScene h b => Sys2Proof.Machine.execDefineScene h b s
  | .sizeCueList h list length => Sys2Proof.Machine.execSizeCueList h list length s
  | .writeCues h list offset count cues => Sys2Proof.Machine.execWriteCues h list offset count cues s
  | .defineChannel h b => Sys2Proof.Machine.execDefineChannel h b s
  | .defineLampGroup h b => Sys2Proof.Machine.execDefineLampGroup h b s
  | .defineAxis h b => Sys2Proof.Machine.execDefineAxis h b s
  | .defineSoundZone h b => Sys2Proof.Machine.execDefineSoundZone h b s
  | .defineSensor h b => Sys2Proof.Machine.execDefineSensor h b s
  | .defineAxisGroup h group sensor => Sys2Proof.Machine.execDefineAxisGroup h group sensor s
  | .defineTimetableEntry h b => Sys2Proof.Machine.execDefineTimetableEntry h b s
  | .beginClip h clip length => Sys2Proof.Machine.execBeginClip h clip length s
  | .writeClip h clip offset count data => Sys2Proof.Machine.execWriteClip h clip offset count data s
  | .clipWriteEnd ok => Sys2Proof.Machine.execClipWriteEnd ok s
  | .clipWriteTimeout => Sys2Proof.Machine.execClipWriteTimeout s
  | .storeShow h => Sys2Proof.Machine.execStoreShow h s
  | .storeDone => Sys2Proof.Machine.execStoreDone s
  | .storeFailed byFlash => Sys2Proof.Machine.execStoreFailed byFlash s
  | .openShow h => Sys2Proof.Machine.execOpenShow h s
  | .closeShow h form => Sys2Proof.Machine.execCloseShow h form s
  | .resumeShow h => Sys2Proof.Machine.execResumeShow h s
  | .startScene h scene => Sys2Proof.Machine.execStartScene h scene s
  | .stopScene h scene form => Sys2Proof.Machine.execStopScene h scene form s
  | .enableScene h scene => Sys2Proof.Machine.execEnableScene h scene s
  | .disableScene h scene => Sys2Proof.Machine.execDisableScene h scene s
  | .collectPresses h => Sys2Proof.Machine.execCollectPresses h s
  | .acknowledgeFaults h count latches => Sys2Proof.Machine.execAcknowledgeFaults h count latches s
  | .ackStuckInput p => Sys2Proof.Machine.execAckStuckInput p s
  | .ackAxisTravel p => Sys2Proof.Machine.execAckAxisTravel p s
  | .ackClipStore p => Sys2Proof.Machine.execAckClipStore p s
  | .setTime h timeOfDay weekday => Sys2Proof.Machine.execSetTime h timeOfDay weekday s
  | .setTrim h trim => Sys2Proof.Machine.execSetTrim h trim s
  | .setMaster h group level => Sys2Proof.Machine.execSetMaster h group level s
  | .setBase h first last level fade => Sys2Proof.Machine.execSetBase h first last level fade s
  | .homeAxes h axes => Sys2Proof.Machine.execHomeAxes h axes s
  | .restart h => Sys2Proof.Machine.execRestart h s
  | .testLevel h first last level => Sys2Proof.Machine.execTestLevel h first last level s
  | .jogAxis h axis speed target => Sys2Proof.Machine.execJogAxis h axis speed target s
  | .playClip h zone clip attenuation => Sys2Proof.Machine.execPlayClip h zone clip attenuation s
  | .takeControl lengthOk form => Sys2Proof.Machine.execTakeControl lengthOk form s
  | .takeGrant => Sys2Proof.Machine.execTakeGrant s
  | .giveBack lengthOk => Sys2Proof.Machine.execGiveBack lengthOk s
  | .serviceSilence => Sys2Proof.Machine.execServiceSilence s
  | .inputLineChange n high => Sys2Proof.Machine.execInputLineChange n high s
  | .debounceExpiry n => Sys2Proof.Machine.execDebounceExpiry n s
  | .stuckExpiry n => Sys2Proof.Machine.execStuckExpiry n s
  | .holdExpiry z => Sys2Proof.Machine.execHoldExpiry z s
  | .zoneChangeScheduler z => Sys2Proof.Machine.execZoneChangeScheduler z s
  | .zoneChangeMotion z => Sys2Proof.Machine.execZoneChangeMotion z s
  | .zoneChangeMixer z => Sys2Proof.Machine.execZoneChangeMixer z s
  | .entryExpiry scene => Sys2Proof.Machine.execEntryExpiry scene s
  | .deadlineExpiry c => Sys2Proof.Machine.execDeadlineExpiry c s
  | .returnLimitExpiry c => Sys2Proof.Machine.execReturnLimitExpiry c s
  | .restExpiry scene => Sys2Proof.Machine.execRestExpiry scene s
  | .cueIssue c track => Sys2Proof.Machine.execCueIssue c track s
  | .lightingFrame => Sys2Proof.Machine.execLightingFrame s
  | .timedHoldExpiry g => Sys2Proof.Machine.execTimedHoldExpiry g s
  | .switchLineChange a sw high => Sys2Proof.Machine.execSwitchLineChange a sw high s
  | .switchFilterExpiry a sw => Sys2Proof.Machine.execSwitchFilterExpiry a sw s
  | .homeNotFound a => Sys2Proof.Machine.execHomeNotFound a s
  | .moveArrival a => Sys2Proof.Machine.execMoveArrival a s
  | .stoppingAtRest a => Sys2Proof.Machine.execStoppingAtRest a s
  | .sensorReading n reading => Sys2Proof.Machine.execSensorReading n reading s
  | .thermalChangeLighting n => Sys2Proof.Machine.execThermalChangeLighting n s
  | .thermalChangeMotion n => Sys2Proof.Machine.execThermalChangeMotion n s
  | .thermalChangeScheduler n => Sys2Proof.Machine.execThermalChangeScheduler n s
  | .driverFaultLineChange g active => Sys2Proof.Machine.execDriverFaultLineChange g active s
  | .driverFaultFilterExpiry g => Sys2Proof.Machine.execDriverFaultFilterExpiry g s
  | .estopLineChange active => Sys2Proof.Machine.execEstopLineChange active s
  | .estopFilterExpiry => Sys2Proof.Machine.execEstopFilterExpiry s
  | .estopOnScheduler => Sys2Proof.Machine.execEstopOnScheduler s
  | .estopOnLighting => Sys2Proof.Machine.execEstopOnLighting s
  | .estopOnMotion => Sys2Proof.Machine.execEstopOnMotion s
  | .estopOnMixer => Sys2Proof.Machine.execEstopOnMixer s
  | .estopOnControlOwner => Sys2Proof.Machine.execEstopOnControlOwner s
  | .estopOffMotion => Sys2Proof.Machine.execEstopOffMotion s
  | .resumeLighting => Sys2Proof.Machine.execResumeLighting s
  | .resumeMixer => Sys2Proof.Machine.execResumeMixer s
  | .clipReadDone => Sys2Proof.Machine.execClipReadDone s
  | .clipReadTimeout => Sys2Proof.Machine.execClipReadTimeout s
  | .probeDue => Sys2Proof.Machine.execProbeDue s
  | .probeEnd answered => Sys2Proof.Machine.execProbeEnd answered s
  | .clipEnd z => Sys2Proof.Machine.execClipEnd z s
  | .clockMillisecond => Sys2Proof.Machine.execClockMillisecond s
  | .byteArrival p byte stopBitOk => Sys2Proof.Machine.execByteArrival p byte stopBitOk s
  | .heldAtRest a => Sys2Proof.Machine.execHeldAtRest a s

end Sys2Proof.Machine
end

