-- ==== Sys2Proof/Machine/Wire.lean ====
section
/-! DEFINITION. The bytes the part sends (sections 12.1 to 12.5): the frame, the notices, and the replies whose
layout chapter 12 gives; the fields of the other replies are the free bytes of `Config`, as many as fit a frame. -/

namespace Sys2Proof.Machine

/-! Codes (section 12.3). -/

/-- The code of a reply code. -/
def replyCode : ReplyCode → Nat
  | .done => 0x00 | .adjusted => 0x01 | .absorbed => 0x02 | .badFrame => 0x10 | .unknownKind => 0x11
  | .badBody => 0x12 | .wrongMode => 0x20 | .serviceHolds => 0x21 | .notOwner => 0x22 | .busy => 0x23
  | .queueFull => 0x30 | .notDefined => 0x31 | .inUse => 0x32 | .noRoom => 0x33 | .estopActive => 0x34
  | .storeFault => 0x35

/-- The code of a mode. -/
def modeCode : Mode → Nat
  | .closed => 0 | .opened => 1 | .service => 2 | .standstill => 3

/-- The code of a scene state. -/
def sceneStateCode : SceneState → Nat
  | .off => 0 | .idle => 1 | .queued => 2 | .running => 3 | .returning => 4 | .resting => 5

/-- The code of an end cause; 0 is none. -/
def endCauseCode : Option EndCause → Nat
  | none => 0
  | some .normal => 1 | some .stopped => 2 | some .timeout => 3 | some .preempted => 4 | some .fault => 5
  | some .thermal => 6 | some .estop => 7 | some .closed => 8

/-- The code of a request source and its detail. -/
def sourceCode : Source → Nat × Nat
  | .visitor i => (1, unitNo i) | .showLink => (2, 0) | .serviceLink => (3, 0)
  | .timetable e => (4, unitNo e) | .chain i => (5, unitNo i)

/-- The code of a drop reason. -/
def dropCode : DropReason → Nat
  | .off => 1 | .closed => 2 | .service => 3 | .estop => 4 | .full => 5 | .displaced => 6 | .expired => 7
  | .disabled => 8 | .stopped => 9

/-- The code of a latch kind. -/
def latchCode : LatchKind → Nat
  | .lampDriver => 1 | .axisDriver => 2 | .sensor => 3 | .hotSeen => 4 | .criticalSeen => 5 | .stuckInput => 6
  | .axisTravel => 7 | .clipStore => 8

/-- The code of a thermal state. -/
def thermalCode : Thermal → Nat
  | .normal => 0 | .hot => 1 | .critical => 2

/-- The code of a mode change cause. -/
def modeCauseCode : ModeCause → Nat
  | .openShow => 1 | .closeShow => 2 | .timetable => 3 | .take => 4 | .giveBack => 5 | .silence => 6 | .estop => 7
  | .resume => 8

/-- The code of a skip reason (section 12.4). -/
def skipCode : SkipReason → Nat
  | .unhomed => 1 | .homing => 2 | .faulted => 3 | .critical => 4 | .estop => 5

/-- The code of an axis fault cause (section 12.4). -/
def axisFaultCode : AxisFault → Nat
  | .limit => 1 | .homeNotFound => 2 | .driver => 3

/-- The code of a thermal cause (section 12.4). -/
def thermalCauseCode : ThermalCause → Nat
  | .reading => 1 | .fault => 2 | .define => 3

/-- The code of a timetable action and its scene. -/
def actionCode : TimetableAction → Nat × Nat
  | .openShow => (1, 0) | .closeShow => (2, 0) | .start i => (3, unitNo i)

/-- The code of the reason of an EMPTY load; 0 is none (section 12.4). -/
def loadReasonCode : Option LoadReason → Nat
  | none => 0
  | some .readFailed => 1 | some .length => 2 | some .crc => 3 | some .range => 4 | some .crossReference => 5

/-! Fields. -/

/-- One byte. -/
def b1 (v : Nat) : List Byte := leBytes 1 v

/-- Two bytes. -/
def b2 (v : Nat) : List Byte := leBytes 2 v

/-- The capture flags, run-time stamp, time of day and weekday of a capture record (section 12.5). An absent
field is sent as 0. -/
def captureBytes (c : Capture) : List Byte :=
  b1 ((if c.pending then 1 else 0) + (if c.stamp.isSome then 2 else 0) + (if c.time.isSome then 4 else 0)) ++
    leBytes 4 (c.stamp.elim 0 BitVec.toNat) ++ leBytes 3 (c.time.elim 0 (·.seconds)) ++
    b1 (c.time.elim 0 fun t => unitNo t.weekday)

/-- A press record of COLLECT PRESSES, 11 bytes (section 12.5). -/
def pressBytes (r : PressRecord) : List Byte := b2 r.count ++ captureBytes r.capture

/-- The body of an AXIS notice: event, axis, scene, two positions and a code. -/
def axisBytes (event : Nat) (a : Axis) (scene : Option SceneId) (first second code : Nat) : List Byte :=
  b1 event ++ b1 (unitNo a) ++ b1 (optUnitNo scene) ++ b2 first ++ b2 second ++ b1 code

/-- A notice's kind and own fields (section 12.4). -/
def noticeFields : NoticeBody → Nat × List Byte
  | .scene i left entered ctx cause runs =>
    (0xC0, b1 (unitNo i) ++ b1 (sceneStateCode left) ++ b1 (sceneStateCode entered) ++ b1 (optUnitNo ctx) ++
             b1 (endCauseCode cause) ++ b2 runs)
  | .dropped i source reason =>
    (0xC1, b1 0 ++ b1 (unitNo i) ++ b1 (sourceCode source).1 ++ b1 (sourceCode source).2 ++ b1 (dropCode reason))
  | .droppedClip z clip i track => (0xC1, b1 1 ++ b1 (unitNo z) ++ b1 clip.val ++ b1 (optUnitNo i) ++ b1 (track.getD 0))
  | .press i count c scene => (0xC2, b1 (unitNo i) ++ b2 count ++ captureBytes c ++ b1 (optUnitNo scene))
  | .fault kind unit already => (0xC3, b1 (latchCode kind) ++ b1 unit ++ b1 (if already then 1 else 0))
  | .thermal n old new reading cause =>
    (0xC4, b1 (unitNo n) ++ b1 (thermalCode old) ++ b1 (thermalCode new) ++ leSigned 2 (reading.getD 0x7FFF) ++
             b1 (thermalCauseCode cause))
  | .mode old new ret cause => (0xC5, b1 (modeCode old) ++ b1 (modeCode new) ++ b1 (modeCode ret) ++ b1 (modeCauseCode cause))
  | .mark i c track pass offset n =>
    (0xC6, b1 (unitNo i) ++ b1 (unitNo c) ++ b1 track ++ b2 pass ++ b2 offset ++ b1 n)
  | .homed a offset => (0xC7, axisBytes 1 a none offset 0 0)
  | .clamped a i asked used => (0xC7, axisBytes 2 a i asked used 0)
  | .skipped a i target reason => (0xC7, axisBytes 3 a (some i) target 0 (skipCode reason))
  | .faulted a i cause => (0xC7, axisBytes 4 a i 0 0 (axisFaultCode cause))
  | .abandoned a i position => (0xC7, axisBytes 5 a (some i) position 0 0)
  | .clock applied e action day minute =>
    (0xC8, b1 (if applied then 2 else 1) ++ b1 (unitNo e) ++ b1 (actionCode action).1 ++ b1 (actionCode action).2 ++
             b1 (unitNo day) ++ b2 minute)
  | .startup loaded kind reason length =>
    (0xC9, b1 (if loaded then 1 else 2) ++ b1 (match kind with | .powerOn => 1 | .restart => 2) ++
             b1 (loadReasonCode reason) ++ leBytes 4 length)

/-- The code of a cue's kind (section 12.3). -/
def cueKindCode : CueAct → Nat
  | .lamp _ _ _ _ => 1 | .axis _ _ _ => 2 | .narrate _ _ _ => 3 | .ambience _ _ _ => 4 | .mark _ => 5 | .request _ => 6

/-- The six parameter bytes of a cue: its parameters in order, and padding sent as 0 (section 12.5, R177). -/
def cueParameters : CueAct → List Byte
  | .lamp first last level fade => b1 (unitNo first) ++ b1 (unitNo last) ++ b2 level ++ b2 fade
  | .axis a speed target => b1 (unitNo a) ++ b1 speed ++ b2 target ++ leBytes 2 0
  | .narrate z clip attenuation => b1 (unitNo z) ++ b1 clip.val ++ b1 attenuation ++ leBytes 3 0
  | .ambience z attenuation ramp => b1 (unitNo z) ++ b1 attenuation ++ b2 ramp ++ leBytes 2 0
  | .mark n => b1 n ++ leBytes 5 0
  | .request i => b1 (unitNo i) ++ leBytes 5 0

/-- A cue record, 10 bytes (section 12.5). -/
def cueBytes (q : Cue) : List Byte :=
  b2 q.delta ++ b1 (cueKindCode q.act) ++
    b1 ((if q.wait then 1 else 0) + (if q.cut then 2 else 0) + (if q.occupiedOnly then 4 else 0)) ++ cueParameters q.act

/-- What a READ CUES reply gives before its records (R66). -/
def cuesHead (length free : Nat) : List Byte :=
  (List.range Config.cuesHeadLength.val).map (Config.replyByte (.cues length free []))

/-- A reply's fields after its code: those whose layout chapter 12 gives, and those of `Config`. -/
def replyFields : ReplyBody → List Byte
  | .empty => []
  | .kindByte kind => [kind]
  | .presses records => records.flatMap pressBytes
  | .cues length free cues => cuesHead length free ++ cues.flatMap cueBytes
  | .restartTaken => []
  | other => (List.range (Config.replyLength other).val).map (Config.replyByte other)

/-- A frame: sync, length, kind, body and check (section 12.1). -/
def frameBytes (kind : Byte) (body : List Byte) : List Byte :=
  let covered := BitVec.ofNat 8 (1 + body.length) :: kind :: body
  0xA5#8 :: covered ++ leBytes 2 (crc16 covered).toNat

/-- The frame of a notice with the missed count it carries (section 12.1). -/
def noticeFrame (n : Notice) (missed : Nat) : List Byte :=
  let f := noticeFields n.body
  frameBytes (BitVec.ofNat 8 f.1) (b1 missed ++ leBytes 4 n.stamp.toNat ++ f.2)

/-- The frame of a reply (section 12.1). -/
def replyFrame (r : Reply) : List Byte := frameBytes r.kind (b1 (replyCode r.code) ++ replyFields r.body)

/-- The frame a transmitter is sending, if any (R164). -/
def Transmitter.frame : Transmitter → Option (List Byte)
  | .idle => none
  | .reply r => some (replyFrame r)
  | .notice n missed => some (noticeFrame n missed)

end Sys2Proof.Machine
end

