-- ==== Sys2Proof/Safety.lean ====
section
/-! DEFINITION. The terms the claims use: a part between two events, what a reply and a notice leave on the links,
when a request is let through, the request that a command is, and the bounds and ranges the manual gives the state. -/

namespace Sys2Proof.Machine

/-! The part between two events. -/

/-- A port's transmitter has nothing it could start to send: it is sending, or its reply slot is empty (R164). -/
def PortState.quiet (x : PortState) : Bool := !decide (x.transmitter = .idle) || x.replies.isEmpty

/-- No transmitter could start to send, and no one could take the flash (R127, R164, R171). -/
def State.quiet (s : State) : Bool :=
  s.link.showPort.quiet && (!decide (s.link.showPort.transmitter = .idle) || s.link.outbox.isEmpty) &&
    s.link.servicePort.quiet &&
    (s.store.held.isSome || s.mixer.read.isSome ||
      (s.store.queued.isEmpty && !s.mixer.probeOwed && s.mixer.nextRead.isNone))

/-- The port after a reply is placed in a part that was quiet: an idle transmitter starts to send it at once, and
otherwise it waits last in the slot (R162, R164). -/
def PortState.answered (x : PortState) (r : Reply) : PortState :=
  if x.transmitter = .idle then { x with transmitter := .reply r } else { x with replies := x.replies ++ [r] }

/-- The part after a reply to a request of `kind` is placed: nothing but the port is changed. -/
def State.answered (s : State) (p : Port) (kind : Byte) (code : ReplyCode) (body : ReplyBody) : State :=
  s.modPort p fun x => x.answered { kind := kind, code := code, body := body }

/-- The show link after a notice is placed in a part that was quiet: an idle transmitter starts to send it with the
missed count, and otherwise it waits last in the outbox, or is counted as missed (R164, R165). -/
def Link.told (l : Link) (n : Notice) : Link :=
  if l.showPort.transmitter = .idle then
    { l with showPort := { l.showPort with transmitter := .notice n l.missed }, missed := 0 }
  else l.place n

/-- The part after a notice of the present run time is placed: nothing but the show link is changed. -/
def State.told (s : State) (b : NoticeBody) : State := { s with link := s.link.told ⟨s.now, b⟩ }

/-- Notices of one event placed in the outbox, in order. -/
def State.places (s : State) (bs : List NoticeBody) : State :=
  { s with link := (bs.map fun b => (⟨s.now, b⟩ : Notice)).foldl Link.place s.link }

/-- Both transmitters, if idle, start to send what waits (R164). -/
def State.sends (s : State) : State := { s with link := (s.link.startSending .showLink).startSending .serviceLink }

/-! When a request is let through (R161 to R163). -/

/-- A request frame is taken and not answered BUSY: loading is over, nothing is pending on the port, no RESTART is
accepted, fewer than three replies wait, and the body's length is right. The part is quiet. -/
structure State.Admits (s : State) (h : FrameHead) : Prop where
  loaded : s.store.load ≠ .loading
  free : (s.port h.port).pending = none
  staying : s.link.restarting = none
  room : (s.port h.port).replies.length < 3
  length : h.lengthOk = true
  quiet : s.quiet = true

/-- The port of a request holds control. -/
def State.Holds (s : State) (h : FrameHead) : Prop := s.owner.owner = h.port

/-- A define request is let through (R163). -/
structure State.AdmitsDefine (s : State) (h : FrameHead) : Prop extends s.Admits h where
  control : s.owner.owner = h.port
  mode : s.sched.mode = .closed ∨ s.sched.mode = .service
  idle : s.store.job = none

/-- A request that needs control, in every mode, is let through (R163). -/
structure State.AdmitsOwned (s : State) (h : FrameHead) : Prop extends s.Admits h where
  control : s.owner.owner = h.port

/-- A service request is let through: TEST LEVEL, JOG AXIS or PLAY CLIP (R163). -/
structure State.AdmitsService (s : State) (h : FrameHead) : Prop extends s.Admits h where
  control : s.owner.owner = h.port
  mode : s.sched.mode = .service

/-! What a change leaves at the Scheduler (R25, R26, R44). -/

/-- The Scheduler with the scenes that a condition concerns evaluated again (R25, R26). -/
def Scheduler.reviewed (s : Scheduler) (axes : Table 12 AxisRec) (concerns : SceneRecord → Bool) : Scheduler :=
  { s with scenes := s.scenes.map fun x =>
      if x.record.any concerns then { x with ready := readinessOf x.record s.seen axes s.mode } else x }

/-- The claims with no promise to the entry of a scene (R44). -/
def Scheduler.unpromised (s : Scheduler) (i : SceneId) : Scheduler :=
  let f : Claim → Claim := fun c => if c.promise = some i then { c with promise := none } else c
  { s with axisClaims := s.axisClaims.map f, zoneClaims := s.zoneClaims.map f }

/-- The state in which a scene's end leaves it, and its rest timer (R21 to R23). -/
def Scene.ended (x : Scene) (now : Stamp) (cause : Option EndCause) (rest : Nat) : Scene :=
  { x with context := none, endCause := cause, state := if rest = 0 then .idle else .resting,
           restUntil := if rest = 0 then x.restUntil else some (later now (1000 * rest)) }

/-! The command that a frame carries (sections 12.2 and 12.5). -/

/-- The request of a frame by its kind byte and its body. Where chapter 12 gives the layout of the body, its fields are
read from it; the others are those of `Config.requestFields` (assumption log 5). That a request whose rule
names no field and does not call its body empty has length 0 is the model's choice (assumption log 5). A kind that is
no request of the link is an UNKNOWN_KIND. -/
def frameCommand (p : Port) (kind : Byte) (body : List Byte) : Instr :=
  let head (ok : Bool) : FrameHead := { port := p, lengthOk := ok }
  let f := Config.requestFields kind.toNat body
  let v (i : Nat) : Int := f.2.getD i 0
  let n (i : Nat) : Nat := (v i).toNat
  let empty := head body.isEmpty
  let free := head f.1
  if !isRequestKind p kind.toNat then .unknownKind p kind
  else match kind.toNat with
  | 0x01 => .queryStatus empty
  | 0x02 => .queryZones empty
  | 0x03 => .queryScene free (n 0)
  | 0x04 => .queryQueue (head (decide (body.length = 1))) (byteAt body 0)
  | 0x05 => .queryTracks free (n 0)
  | 0x06 => .readCues free (n 0) (n 1) (n 2)
  | 0x07 => .queryLevels empty
  | 0x08 => .queryAxes empty
  | 0x09 => .queryAudio free (f.2.head?.map clipField)
  | 0x0A => .queryHealth empty
  | 0x0B => .queryClock empty
  | 0x10 => .defineInput (head (decide (body.length = 10))) (inputBody body)
  | 0x11 => .defineZone free (n 0) (n 1)
  | 0x12 => .defineScene (head (decide (body.length = 24 + 3 * byteAt body 1))) (sceneBody body)
  | 0x13 => .sizeCueList free (n 0) (n 1)
  | 0x14 => .writeCues (head (decide (body.length = 4 + 10 * byteAt body 3))) (byteAt body 0) (natAt body 1 2)
      (byteAt body 3) (cueBodies (byteAt body 3) (body.drop 4))
  | 0x15 => .defineChannel free { channel := n 0, base := n 1, curve := n 2, floor := n 3, safe := n 4 }
  | 0x16 => .defineLampGroup free { group := n 0, master := n 1, response := n 2, hold := n 3, sensor := n 4 }
  | 0x17 => .defineAxis (head (decide (body.length = 22))) (axisBody body)
  | 0x18 => .defineSoundZone free { zone := n 0, floor := n 1, bed := n 2, base := n 3, depth := n 4, ramp := n 5 }
  | 0x19 => .defineSensor free { sensor := n 0, fitted := n 1, hot := v 2, critical := v 3, derate := v 4 }
  | 0x1A => .defineAxisGroup free (n 0) (n 1)
  | 0x1B => .defineTimetableEntry free { entry := n 0, days := n 1, minute := n 2, action := n 3, scene := n 4 }
  | 0x1C => .beginClip free (clipField (v 0)) (n 1)
  | 0x1D => .writeClip free (clipField (v 0)) (n 1) (n 2) ((f.2.drop 3).map fun x => BitVec.ofInt 8 x)
  | 0x1E => .storeShow empty
  | 0x20 => .openShow empty
  | 0x21 => .closeShow free (n 0)
  | 0x22 => .resumeShow empty
  | 0x23 => .startScene free (n 0)
  | 0x24 => .stopScene free (n 0) (n 1)
  | 0x25 => .enableScene free (n 0)
  | 0x26 => .disableScene free (n 0)
  | 0x27 => .collectPresses empty
  | 0x28 => .acknowledgeFaults free (n 0) (latchFields (f.2.drop 1))
  | 0x29 => .setTime free (n 0) (n 1)
  | 0x2A => .setTrim free (v 0)
  | 0x2B => .setMaster free (n 0) (n 1)
  | 0x2C => .setBase free (n 0) (n 1) (n 2) (n 3)
  | 0x2D => .homeAxes (head (decide (body.length = 2))) (natAt body 0 2)
  | 0x2E => .restart empty
  | 0x30 => .testLevel free (n 0) (n 1) (f.2[2]?.map Int.toNat)
  | 0x31 => .jogAxis free (n 0) (n 1) (n 2)
  | 0x32 => .playClip free (n 0) (clipField (v 1)) (n 2)
  | 0x38 => .takeControl f.1 (n 0)
  | 0x39 => .giveBack body.isEmpty
  | _ => .unknownKind p kind

/-- The request that a command is, by its frame head and its kind (section 12.2); none for an event that is no request
of a link. TAKE CONTROL and GIVE BACK are requests of the service link alone (R163). -/
def requestOf : Instr → Option (FrameHead × Nat)
  | .queryStatus h => some (h, 0x01)
  | .queryZones h => some (h, 0x02)
  | .queryScene h _ => some (h, 0x03)
  | .queryQueue h _ => some (h, 0x04)
  | .queryTracks h _ => some (h, 0x05)
  | .readCues h _ _ _ => some (h, 0x06)
  | .queryLevels h => some (h, 0x07)
  | .queryAxes h => some (h, 0x08)
  | .queryAudio h _ => some (h, 0x09)
  | .queryHealth h => some (h, 0x0A)
  | .queryClock h => some (h, 0x0B)
  | .defineInput h _ => some (h, 0x10)
  | .defineZone h _ _ => some (h, 0x11)
  | .defineScene h _ => some (h, 0x12)
  | .sizeCueList h _ _ => some (h, 0x13)
  | .writeCues h _ _ _ _ => some (h, 0x14)
  | .defineChannel h _ => some (h, 0x15)
  | .defineLampGroup h _ => some (h, 0x16)
  | .defineAxis h _ => some (h, 0x17)
  | .defineSoundZone h _ => some (h, 0x18)
  | .defineSensor h _ => some (h, 0x19)
  | .defineAxisGroup h _ _ => some (h, 0x1A)
  | .defineTimetableEntry h _ => some (h, 0x1B)
  | .beginClip h _ _ => some (h, 0x1C)
  | .writeClip h _ _ _ _ => some (h, 0x1D)
  | .storeShow h => some (h, 0x1E)
  | .openShow h => some (h, 0x20)
  | .closeShow h _ => some (h, 0x21)
  | .resumeShow h => some (h, 0x22)
  | .startScene h _ => some (h, 0x23)
  | .stopScene h _ _ => some (h, 0x24)
  | .enableScene h _ => some (h, 0x25)
  | .disableScene h _ => some (h, 0x26)
  | .collectPresses h => some (h, 0x27)
  | .acknowledgeFaults h _ _ => some (h, 0x28)
  | .setTime h _ _ => some (h, 0x29)
  | .setTrim h _ => some (h, 0x2A)
  | .setMaster h _ _ => some (h, 0x2B)
  | .setBase h _ _ _ _ => some (h, 0x2C)
  | .homeAxes h _ => some (h, 0x2D)
  | .restart h => some (h, 0x2E)
  | .testLevel h _ _ _ => some (h, 0x30)
  | .jogAxis h _ _ _ => some (h, 0x31)
  | .playClip h _ _ _ => some (h, 0x32)
  | .takeControl ok _ => some ({ port := .serviceLink, lengthOk := ok }, 0x38)
  | .giveBack ok => some ({ port := .serviceLink, lengthOk := ok }, 0x39)
  | _ => none

/-- The commands that begin a start-up or end its loading. -/
def isStartUp : Instr → Bool
  | .powerOn _ _ => true
  | .transmitDone _ => true
  | .loadEnd _ => true
  | .imageReadTimeout => true
  | _ => false

/-! Bounds of the state. -/

/-- A port's reply slot holds at most four replies, and keeps room for the reply to a pending request (R162). -/
def PortState.bounded (x : PortState) : Bool :=
  decide (x.replies.length ≤ 4) && (x.pending.isNone || decide (x.replies.length ≤ 3))

/-- The outbox holds at most 32 notices and the missed count is at most 255; the reply slots are bounded (R162,
R165). -/
def Link.bounded (l : Link) : Bool :=
  l.showPort.bounded && l.servicePort.bounded && decide (l.outbox.length ≤ 32) && decide (l.missed ≤ 255)

/-- The phase is 0 to 999, the trims are -512 to +511, and the time of day is 0 to 86,399 (chapter 9). -/
def Clock.bounded (c : Clock) : Bool :=
  decide (c.phase ≤ 999) && decide (-512 ≤ c.trimInUse ∧ c.trimInUse ≤ 511) &&
    decide (-512 ≤ c.trimPending ∧ c.trimPending ≤ 511) && c.time.all fun t => decide (t.seconds ≤ 86399)

/-- The laws of the queue, the contexts and the show mode that the manual states of every run (R38, R41, R53, R56): the
queue has room for 16 entries, in order of priority, no two for one scene, and each scene in it is QUEUED; each occupied
context holds a scene of its own that is RUNNING or RETURNING; in SERVICE and STANDSTILL every context is free and the
queue is empty; a pending take has suspended dispatch and emptied the queue; the two return modes are legal; and in
SERVICE, and in a STANDSTILL that returns to it, the service link holds control. -/
structure State.SceneLaws (s : State) : Prop where
  room : s.sched.queue.length ≤ 16
  ordered : s.sched.queue.Pairwise fun a b => b.priority ≤ a.priority
  once : (s.sched.queue.map (·.scene)).Nodup
  queued : ∀ e ∈ s.sched.queue, (s.sched.scenes.get e.scene).state = .queued
  held : ∀ c x, s.sched.contexts.get c = some x → (s.sched.scenes.get x.scene).record ≠ none ∧
    ((s.sched.scenes.get x.scene).state = .running ∨ (s.sched.scenes.get x.scene).state = .returning)
  apart : ∀ c d x y, s.sched.contexts.get c = some x → s.sched.contexts.get d = some y → x.scene = y.scene → c = d
  calm : s.sched.mode = .service ∨ s.sched.mode = .standstill →
    s.sched.queue = [] ∧ ∀ c, s.sched.contexts.get c = none
  take : s.owner.take ≠ none → s.store.load ≠ .loading ∧ s.sched.suspended = true ∧ s.sched.queue = []
  returnMode : s.sched.returnMode ≠ .standstill
  serviceReturn : s.sched.serviceReturn = .closed ∨ s.sched.serviceReturn = .opened
  service : s.sched.mode = .service ∨ (s.sched.mode = .standstill ∧ s.sched.returnMode = .service) →
    s.owner.owner = .serviceLink

/-- The levels that a channel's outputs are made from lie in 0 to 1000, and its floor in 0 to 400 (R78, R79, R82, R85,
R87, R93 to R96). -/
structure ChannelState.InRange (c : ChannelState) : Prop where
  defn : c.defn.base ≤ 1000 ∧ c.defn.floor ≤ 400 ∧ c.defn.safe ≤ 1000
  base : c.base.start ≤ 1000 ∧ c.base.target ≤ 1000
  stack : ∀ x ∈ c.stack, x.fade.start ≤ 1000 ∧ x.fade.target ≤ 1000
  handover : ∀ h, c.handover = some h → h.start ≤ 1000
  test : ∀ v, c.test = some v → v ≤ 1000
  blends : (∀ b, c.levelBlend = some b → b.start ≤ 1000) ∧ ∀ f, c.masterFade = some f → f.start ≤ 1000

/-- The ranges of all that the lamp outputs are made from, and of the outputs (sections 5.1 to 5.7 and 8.1): the channels
in range, the group masters at most 1000, every derate percent at most 100, at the groups, at the sensors and on its way
between them, the levels of the LAMP cues at most 1000, and in the last frame every level at most 1000 and every output
at most 4095. -/
structure State.LevelLaws (s : State) : Prop where
  channels : ∀ c, (s.light.channels.get c).InRange
  groups : ∀ g, (s.light.groups.get g).defn.master ≤ 1000 ∧ (s.light.groups.get g).derate ≤ 100
  sensors : ∀ n, (s.supervisor.sensors.get n).defn.derate ≤ 100
  delivered : ∀ x ∈ s.delivery.thermalLighting, x.derate ≤ 100
  cues : ∀ l, ∀ q ∈ s.cues.get l, ∀ first last level fade, q.act = .lamp first last level fade → level ≤ 1000
  frame : ∀ c, (s.light.snapshot.channels.get c).level ≤ 1000 ∧ (s.light.snapshot.channels.get c).output ≤ 4095

/-- A byte address that a clip-region write covers. -/
def ClipWrite.covers (x : ClipWrite) (a : Nat) : Prop := x.address ≤ a ∧ a < x.address + x.data.length

end Sys2Proof.Machine
end

