-- ==== Sys2Proof/WellFormed.lean ====
section
/-! DEFINITION. The commands whose operands a frame of their layout, or an event of their kind, can carry. A command
that is not well-formed still has a meaning; no frame and no event gives it. -/

namespace Sys2Proof

open Machine

/-- A number of `n` bytes. -/
def fitsBytes (n v : Nat) : Bool := decide (v < 256 ^ n)

/-- The units of a set stand in ascending order. -/
def ascending : List (Fin n) → Bool
  | [] => true
  | [_] => true
  | a :: b :: rest => decide (a < b) && ascending (b :: rest)

/-- The fields of a DEFINE INPUT body fit its layout (section 12.5). -/
def InputBody.wf (b : InputBody) : Bool :=
  [b.input, b.role, b.polarity, b.debounce, b.zone, b.scene, b.capture, b.notify].all (fitsBytes 1) &&
    fitsBytes 2 b.stuckLimit

/-- The fields of a DEFINE SCENE body fit its layout, and its tracks are those its count gives. -/
def SceneBody.wf (b : SceneBody) : Bool :=
  [b.scene, b.trackCount, b.enabled, b.priority, b.zones, b.mask, b.audience, b.readyLine, b.waitLimit,
   b.followOn].all (fitsBytes 1) &&
    [b.axes, b.maxRun, b.release, b.rest].all (fitsBytes 2) && fitsBytes 6 b.lamps &&
    (b.tracks.all fun t => [t.list, t.mode, t.passes].all (fitsBytes 1)) && decide (b.tracks.length = b.trackCount)

/-- The fields of a DEFINE AXIS body fit its layout. -/
def AxisBody.wf (b : AxisBody) : Bool :=
  [b.axis, b.enabled, b.returnPercent, b.guardZone, b.guardAction, b.sense].all (fitsBytes 1) &&
    [b.min, b.max, b.home, b.maxSpeed, b.accel, b.emergency, b.homingSpeed, b.creep].all (fitsBytes 2)

/-- The sets of the records of an image are in ascending order, as bit sets give them. -/
def Definitions.wf (d : Definitions) : Bool :=
  (d.scenes.rows.all fun x => x.all fun r => ascending r.lamps && ascending r.axes && ascending r.zones) &&
    d.timetable.rows.all fun e => e.all fun e => ascending e.days

/-- The contents of a flash: the image's sets ascend, and the clip region is in canonical form and within its
size. -/
def FoundFlash.wf (f : FoundFlash) : Bool :=
  f.image.definitions.all Definitions.wf && Memory.wf f.clips && f.clips.all fun c => decide (c.1 < clipRegionBytes)

/-- A command is one that a frame of its layout or an event of its kind can carry. -/
def Instr.wf : Instr → Bool
  | .powerOn _ found => found.all FoundFlash.wf
  | .loadEnd _ => true
  | .imageReadTimeout => true
  | .frameTimerExpiry _ => true
  | .badFrame _ => true
  | .unknownKind p kind => !isRequestKind p kind.toNat
  | .transmitDone _ => true
  | .queryStatus _ => true
  | .queryZones _ => true
  | .queryScene _ _ => true
  | .queryQueue _ part => fitsBytes 1 part
  | .queryTracks _ _ => true
  | .readCues _ _ _ _ => true
  | .queryLevels _ => true
  | .queryAxes _ => true
  | .queryAudio _ _ => true
  | .queryHealth _ => true
  | .healthPartGathered _ _ => true
  | .queryClock _ => true
  | .defineInput _ b => b.wf
  | .defineZone _ _ _ => true
  | .defineScene _ b => b.wf
  | .sizeCueList _ _ _ => true
  | .writeCues _ list offset count _ => fitsBytes 1 list && fitsBytes 2 offset && fitsBytes 1 count
  | .defineChannel _ _ => true
  | .defineLampGroup _ _ => true
  | .defineAxis _ b => b.wf
  | .defineSoundZone _ _ => true
  | .defineSensor _ _ => true
  | .defineAxisGroup _ _ _ => true
  | .defineTimetableEntry _ _ => true
  | .beginClip _ _ _ => true
  | .writeClip _ _ _ _ data => decide (data.length ≤ 249)
  | .clipWriteEnd _ => true
  | .clipWriteTimeout => true
  | .storeShow _ => true
  | .storeDone => true
  | .storeFailed _ => true
  | .openShow _ => true
  | .closeShow _ _ => true
  | .resumeShow _ => true
  | .startScene _ _ => true
  | .stopScene _ _ _ => true
  | .enableScene _ _ => true
  | .disableScene _ _ => true
  | .collectPresses _ => true
  | .acknowledgeFaults _ _ latches => decide (latches.length ≤ 249)
  | .ackStuckInput _ => true
  | .ackAxisTravel _ => true
  | .ackClipStore _ => true
  | .setTime _ _ _ => true
  | .setTrim _ _ => true
  | .setMaster _ _ _ => true
  | .setBase _ _ _ _ _ => true
  | .homeAxes _ axes => fitsBytes 2 axes
  | .restart _ => true
  | .testLevel _ _ _ _ => true
  | .jogAxis _ _ _ _ => true
  | .playClip _ _ _ _ => true
  | .takeControl _ _ => true
  | .takeGrant => true
  | .giveBack _ => true
  | .serviceSilence => true
  | .inputLineChange _ _ => true
  | .debounceExpiry _ => true
  | .stuckExpiry _ => true
  | .holdExpiry _ => true
  | .zoneChangeScheduler _ => true
  | .zoneChangeMotion _ => true
  | .zoneChangeMixer _ => true
  | .entryExpiry _ => true
  | .deadlineExpiry _ => true
  | .returnLimitExpiry _ => true
  | .restExpiry _ => true
  | .cueIssue _ track => decide (1 ≤ track) && decide (track ≤ 4)
  | .lightingFrame => true
  | .timedHoldExpiry _ => true
  | .switchLineChange _ _ _ => true
  | .switchFilterExpiry _ _ => true
  | .homeNotFound _ => true
  | .moveArrival _ => true
  | .stoppingAtRest _ => true
  | .sensorReading _ _ => true
  | .thermalChangeLighting _ => true
  | .thermalChangeMotion _ => true
  | .thermalChangeScheduler _ => true
  | .driverFaultLineChange _ _ => true
  | .driverFaultFilterExpiry _ => true
  | .estopLineChange _ => true
  | .estopFilterExpiry => true
  | .estopOnScheduler => true
  | .estopOnLighting => true
  | .estopOnMotion => true
  | .estopOnMixer => true
  | .estopOnControlOwner => true
  | .estopOffMotion => true
  | .resumeLighting => true
  | .resumeMixer => true
  | .clipReadDone => true
  | .clipReadTimeout => true
  | .probeDue => true
  | .probeEnd _ => true
  | .clipEnd _ => true
  | .clockMillisecond => true
  | .byteArrival _ _ _ => true
  | .heldAtRest _ => true

end Sys2Proof
end

