-- ==== Sys2Proof/Certificates/Slice0/Obligations.lean ====
section
/-! DEFINITION. The statements about the part, for the provers. Where a statement says what a command does, it gives
the next state as the state before with exactly the fields named changed: everything else is as it was. A command
of a link is taken in a part that is quiet (`State.Admits`); `State.heard` is the restart of the silence timer by a
frame on the service link (R166). -/

open Sys2Proof Sys2Proof.Machine

/-! The machine as a whole. -/

/-- The step takes the command at the front of the queue and runs it with the queue's rest. The queue is the model's
own (assumption log 10). -/
def Obligations.StepTakesFrontCommand : Prop :=
  ∀ (c : Instr) (rest : List Instr) (s : State), s.pending = c :: rest → step s = exec c { s with pending := rest }

/-- No command changes the queue. The queue is the model's own (assumption log 10). -/
def Obligations.CommandsKeepQueue : Prop :=
  ∀ (c : Instr) (s t : State), exec c s = .next t → t.pending = s.pending

/-- After reset every invariant stated below holds. The erased flash of the reset state is the model's choice
(assumption logs 1 and 2). -/
def Obligations.ResetMeetsInvariants : Prop :=
  Memory.wf State.reset.store.clips = true ∧ State.reset.link.bounded = true ∧ State.reset.clock.bounded = true ∧
    State.reset.quiet = true ∧ State.reset.SceneLaws ∧ State.reset.LevelLaws

/-- Every step keeps the clip region of the flash in canonical form. The form, with unlisted bytes FFh, is the model's
(assumption log 2). -/
def Obligations.StepsKeepClipRegionCanonical : Prop :=
  ∀ s t : State, Memory.wf s.store.clips = true → step s = .next t → Memory.wf t.store.clips = true

/-- Every step keeps the links within their bounds, at most four replies in a slot with room kept for the reply to a
pending request, at most 32 notices in the outbox and a missed count of at most 255 (R162, R165), and the Clock within
its ranges of phase, trims and time of day (chapter 9). It keeps the laws of the queue, the contexts and the show mode:
at most 16 entries in priority order, no two for one scene; and in SERVICE and STANDSTILL every context free and the
queue empty (R38, R53, `State.SceneLaws`). And it keeps the ranges of all that the lamp outputs are made from, and with
them every level at most 1000 and every output at most 4095 (R78, R79, R82, R89, R90, `State.LevelLaws`). -/
def Obligations.StepsKeepLinkAndClockBounds : Prop :=
  (∀ s t : State, s.link.bounded = true → step s = .next t → t.link.bounded = true) ∧
  (∀ s t : State, s.clock.bounded = true → step s = .next t → t.clock.bounded = true) ∧
  (∀ s t : State, s.SceneLaws → step s = .next t → t.SceneLaws) ∧
  (∀ s t : State, s.LevelLaws → step s = .next t → t.LevelLaws)

/-- Every step of a quiet part leaves a quiet part: no idle transmitter with something to send, and no operation that
waits for a free flash (R127, R164, R171). That the choice is made at the end of an event is the model's (assumption
log 14). -/
def Obligations.StepsLeaveQuietPart : Prop :=
  ∀ s t : State, s.quiet = true → step s = .next t → t.quiet = true

/-- A command writes the clip region only at a power-on, at the restart after a sent reply, and when a clip-region
write ends; any other command leaves every byte of it as it was. What a lost write leaves is free, and a power-on may
find another flash (assumption logs 4 and 29). -/
def Obligations.OnlyClipWritesChangeClipRegion : Prop :=
  ∀ (c : Instr) (s t : State), exec c s = .next t → readByte t.store.clips ≠ readByte s.store.clips →
    (∃ strap found, c = .powerOn strap found) ∨ (∃ p, c = .transmitDone p) ∨ (∃ ok, c = .clipWriteEnd ok) ∨
      c = .clipWriteTimeout

/-- A latch that the Supervisor, the Input Conditioner, the Motion Controller or the Clip Reader owns, once set, is
cleared only by an acknowledgement, or by a start-up; the bytes of a frame can carry an acknowledgement (section 8.5,
R115, R128). -/
def Obligations.OnlyAcknowledgementsClearLatches : Prop :=
  ∀ (c : Instr) (s t : State), exec c s = .next t → isStartUp c = false → (∀ p b ok, c ≠ .byteArrival p b ok) →
    ((∀ h n l, c ≠ .acknowledgeFaults h n l) →
      (∀ n, (s.supervisor.sensors.get n).faultLatch = true → (t.supervisor.sensors.get n).faultLatch = true) ∧
      (∀ n, (s.supervisor.sensors.get n).hotSeen = true → (t.supervisor.sensors.get n).hotSeen = true) ∧
      (∀ n, (s.supervisor.sensors.get n).criticalSeen = true → (t.supervisor.sensors.get n).criticalSeen = true) ∧
      (∀ g, (s.supervisor.lampLines.get g).latch = true → (t.supervisor.lampLines.get g).latch = true) ∧
      (∀ g, (s.supervisor.axisLines.get g).latch = true → (t.supervisor.axisLines.get g).latch = true)) ∧
    ((∀ p, c ≠ .ackStuckInput p) →
      ∀ i, (s.inputs.lines.get i).stuckLatch = true → (t.inputs.lines.get i).stuckLatch = true) ∧
    ((∀ p, c ≠ .ackAxisTravel p) →
      ∀ a, (s.motion.axes.get a).travelLatch = true → (t.motion.axes.get a).travelLatch = true) ∧
    ((∀ p, c ≠ .ackClipStore p) → s.mixer.latch = true → t.mixer.latch = true)

/-- The press count of an input never decreases except at COLLECT PRESSES, which the bytes of a frame can carry, and
at a start-up (R6). -/
def Obligations.PressCountsNeverDecrease : Prop :=
  ∀ (c : Instr) (s t : State), exec c s = .next t → isStartUp c = false → (∀ p b ok, c ≠ .byteArrival p b ok) →
    (∀ h, c ≠ .collectPresses h) → ∀ i, (s.inputs.lines.get i).count ≤ (t.inputs.lines.get i).count

/-- Control changes hands only by TAKE CONTROL, its grant, GIVE BACK or service silence, by the bytes of a frame that
carry one of them, and at a power-on or restart (section 10.5); the time becomes valid only by SET TIME, or by the bytes
of a frame that carries it (R154). -/
def Obligations.OwnerAndTimeChangeByTheirCommands : Prop :=
  (∀ (c : Instr) (s t : State), exec c s = .next t → t.owner.owner ≠ s.owner.owner →
     (∃ ok form, c = .takeControl ok form) ∨ c = .takeGrant ∨ (∃ ok, c = .giveBack ok) ∨ c = .serviceSilence ∨
       (∃ p b ok, c = .byteArrival p b ok) ∨ (∃ strap found, c = .powerOn strap found) ∨ ∃ p, c = .transmitDone p) ∧
  (∀ (c : Instr) (s t : State), exec c s = .next t → s.clock.time = none → t.clock.time ≠ none →
     (∃ h time day, c = .setTime h time day) ∨ ∃ p b ok, c = .byteArrival p b ok)

/-! The arithmetic of the outputs. -/

/-- The value of a fade record: the target at and after its duration; before that the start plus (T - S)·e/D, to the
nearest whole number with a half away from zero, between the start and the target (R78). -/
def Obligations.FadeValueIsNearest : Prop :=
  ∀ s t e d : Nat, (d = 0 ∨ d ≤ e → fadeValue s t e d = t) ∧
    (e < d →
      (s ≤ t → s ≤ fadeValue s t e d ∧ fadeValue s t e d ≤ t ∧
        2 * (t - s) * e < 2 * d * (fadeValue s t e d - s) + d ∧
        2 * d * (fadeValue s t e d - s) ≤ 2 * (t - s) * e + d) ∧
      (t ≤ s → t ≤ fadeValue s t e d ∧ fadeValue s t e d ≤ s ∧
        2 * (s - t) * e < 2 * d * (s - fadeValue s t e d) + d ∧
        2 * d * (s - fadeValue s t e d) ≤ 2 * (s - t) * e + d))

/-- The scaled level Q (R89): the nearest whole number to L·M·P/100,000, a half rounded up, at most 1000, and 0 under
forcing. M is 1000 in SAFE, else the running master fade's value, else 1000 under a test level, else the group's
master; P is the derate percent while HOT and 100 while NORMAL; a CRITICAL group or an active line forces 0. A master
fade runs for 2,000 ms, toward 1000 in phase CLEAR on a channel with a test level and toward the group's master
otherwise (R94, R95); that reading of its target is the model's (assumption log 11). -/
def Obligations.ScaledLevelIsNearest : Prop :=
  (∀ l m p : Nat, scaledLevel true l m p = 0 ∧
    100000 * scaledLevel false l m p ≤ l * m * p + 50000 ∧ l * m * p + 50000 < 100000 * (scaledLevel false l m p + 1) ∧
    (l ≤ 1000 → m ≤ 1000 → p ≤ 100 → scaledLevel false l m p ≤ 1000)) ∧
  ∀ (c : ChannelState) (g : LampGroupState) (now : Stamp),
    let l := c.level g.phase now
    let m := c.master g now
    let forced := decide (g.thermal = .critical ∨ g.lineActive = true)
    (channelFrame c g now).level = l.1 ∧ (channelFrame c g now).source = l.2 ∧
    (channelFrame c g now).output = outputValue c.defn.curve c.defn.floor (scaledLevel forced l.1 m g.percent) ∧
    (g.phase = .safe → m = 1000) ∧
    (g.phase ≠ .safe → ∀ f, c.masterFade = some f → elapsed now f.t0 < 2000 →
      m = fadeValue f.start (if g.phase = .clear ∧ c.test ≠ none then 1000 else g.defn.master) (elapsed now f.t0) 2000) ∧
    (g.phase ≠ .safe → (∀ f, c.masterFade = some f → 2000 ≤ elapsed now f.t0) →
      m = if l.2 = .test then 1000 else g.defn.master) ∧
    (g.thermal = .hot → g.percent = g.derate) ∧ (g.thermal = .normal → g.percent = 100)

/-- The output value: the curve's nearest whole number, a half rounded up, raised to the floor unless it is 0; 4095 for
Q of 1000, and never above 4095. A frame drives the output value of its channel's scaled level, and 0 while the group
is CRITICAL or its driver-fault line is active (R90). With the levels, masters and derates in their ranges, which every
step keeps (StepsKeepLinkAndClockBounds), every output of a frame at any run time lies in 0 to 4095. -/
def Obligations.OutputValueFollowsCurveAndFloor : Prop :=
  (∀ q floor, floor ≤ 400 → q ≤ 1000 →
    outputValue .linear floor q ≤ 4095 ∧ outputValue .square floor q ≤ 4095) ∧
  (∀ floor, floor ≤ 400 → outputValue .linear floor 1000 = 4095 ∧ outputValue .square floor 1000 = 4095) ∧
  (∀ curve floor, outputValue curve floor 0 = 0) ∧
  (∀ (l : Lighting) (now : Stamp) (c : Channel),
    let g := l.groups.get (groupOfChannel c)
    let x := l.channels.get c
    let forced := decide (g.thermal = .critical ∨ g.lineActive = true)
    let output := ((l.frame now).snapshot.channels.get c).output
    output = outputValue x.defn.curve x.defn.floor (scaledLevel forced (x.level g.phase now).1 (x.master g now) g.percent) ∧
    (g.thermal = .critical ∨ g.lineActive = true → output = 0)) ∧
  (∀ (s : State) (now : Stamp) (c : Channel), s.LevelLaws →
    ((s.light.frame now).snapshot.channels.get c).output ≤ 4095) ∧
  ∀ q floor v,
    (1000 * v ≤ q * 4095 + 500 → q * 4095 + 500 < 1000 * (v + 1) →
      outputValue .linear floor q = if 0 < v ∧ v < floor then floor else v) ∧
    (1000000 * v ≤ q * q * 4095 + 500000 → q * q * 4095 + 500000 < 1000000 * (v + 1) →
      outputValue .square floor q = if 0 < v ∧ v < floor then floor else v)

/-- A clock second of 1,000 milliseconds takes 4,096,000 - T periods of the reference, for every trim T (R151). -/
def Obligations.SecondTakesTrimmedPeriods : Prop :=
  ∀ t : Int, -512 ≤ t → t ≤ 511 →
    (((List.range 1000).map (msPeriods t)).sum : Int) = 4096000 - t ∧
      ∀ phase, 4095 ≤ msPeriods t phase ∧ msPeriods t phase ≤ 4097

/-- A cue record keeps its parameters by its kind, a setting clamped to the nearest end of its range with the record
then counted as clamped, and is refused where an identifier is out of its range, the last channel of a LAMP is below
the first, or the kind is none of the six (R63). It keeps a flag only where its kind gives it a meaning: WAIT on AXIS
and NARRATE, CUT and OCCUPIED_ONLY on NARRATE; and what the flags are never makes the record clamped (R64). That bits 3
to 7 of the flags are ignored is the model's choice (assumption log 24). -/
def Obligations.CueFlagsKeptByKind : Prop :=
  (∀ (b : CueBody) (q : Cue) (clamped : Bool), cueOf b = some (q, clamped) →
    q.delta = b.delta.toNat ∧
    (b.kind = 2#8 → q.wait = b.flags.getLsbD 0 ∧ q.cut = false ∧ q.occupiedOnly = false) ∧
    (b.kind = 3#8 → q.wait = b.flags.getLsbD 0 ∧ q.cut = b.flags.getLsbD 1 ∧ q.occupiedOnly = b.flags.getLsbD 2) ∧
    (b.kind ≠ 2#8 → b.kind ≠ 3#8 → q.wait = false ∧ q.cut = false ∧ q.occupiedOnly = false) ∧
    ∀ flags, ∃ q', cueOf { b with flags := flags } = some (q', clamped)) ∧
  ∀ b : CueBody,
    let p0 := b.p0.toNat
    let p1 := b.p1.toNat
    let w2 := b.p2.toNat + 256 * b.p3.toNat
    let w4 := b.p4.toNat + 256 * b.p5.toNat
    let keeps (act : CueAct) (clamped : Bool) : Prop := ∃ q, cueOf b = some (q, clamped) ∧ q.act = act
    (∀ first last : Channel, b.kind = 1#8 → unitNo first = p0 → unitNo last = p1 → first ≤ last →
      keeps (.lamp first last (min 1000 w2) (min 60000 w4)) (decide (1000 < w2 ∨ 60000 < w4))) ∧
    (∀ a : Axis, b.kind = 2#8 → unitNo a = p0 →
      keeps (.axis a (max 1 (min 100 p1)) (min 60000 w2)) (decide (p1 < 1 ∨ 100 < p1 ∨ 60000 < w2))) ∧
    (∀ (z : SoundZone) (clip : ClipId), b.kind = 3#8 → unitNo z = p0 → clip.val = p1 →
      keeps (.narrate z clip (min 80 b.p2.toNat)) (decide (80 < b.p2.toNat))) ∧
    (∀ z : SoundZone, b.kind = 4#8 → unitNo z = p0 →
      keeps (.ambience z (if p1 = 255 then 255 else min 80 p1) (min 10000 w2))
        (decide ((80 < p1 ∧ p1 ≠ 255) ∨ 10000 < w2))) ∧
    (b.kind = 5#8 → keeps (.mark p0) false) ∧
    (∀ i : SceneId, b.kind = 6#8 → unitNo i = p0 → keeps (.request i) false) ∧
    (cueOf b = none ↔ ¬((b.kind = 1#8 ∧ 1 ≤ p0 ∧ p0 ≤ p1 ∧ p1 ≤ 48) ∨ (b.kind = 2#8 ∧ 1 ≤ p0 ∧ p0 ≤ 12) ∨
      ((b.kind = 3#8 ∨ b.kind = 4#8) ∧ 1 ≤ p0 ∧ p0 ≤ 4) ∨ b.kind = 5#8 ∨ (b.kind = 6#8 ∧ 1 ≤ p0 ∧ p0 ≤ 64)))

/-- A ready line is lit exactly while a scene assigned to it is IDLE, ready overall, and the mode is OPEN (R30). -/
def Obligations.ReadyLineLitByReadyScene : Prop :=
  ∀ (s : Scheduler) (line : ReadyLine), s.readyLine line = true ↔
    s.mode = .opened ∧ ∃ i r, (s.scenes.get i).record = some r ∧ r.readyLine = some line ∧
      (s.scenes.get i).state = .idle ∧ (s.scenes.get i).ready.overall = true

/-- The factor of every attenuation from 0 to 80 is the whole number nearest to 32767·10^(-s/40), compared exactly by
fortieth powers; a muted one gives 0. A bed's factor is that of its attenuation and duck together, capped at 80, and 0
for a muted bed. A mix term is the nearest whole number to sample·factor/32768, a half away from zero, and a sum beyond
either end of the 16-bit range becomes that end (R135). The duck moves by the whole part of D·e/R from where it turned,
between 0 and its depth (R132), and a bed's ramp by the whole part of (T - S)·e/R toward its target, muted counting as
80 (R133). In a millisecond every zone gives 24 samples, each the saturated sum of its two terms, or 0 under the mute: a
voice or bed gives the sample of its FILLED slot, or 0, and its position goes on by one; a position that passes the end
of a block frees its slot for the next block that will be needed, a bed's returns to 0 at the length, and a voice's
stands there; a read in flight for a freed slot is discarded (R126, R135). That the 24 samples use the slots and the
attenuations at the end of the millisecond is the model's choice (assumption log 27). -/
def Obligations.GainAndMixAreNearest : Prop :=
  (∀ s, s ≤ 80 → (2 * gain s - 1) ^ 40 * 10 ^ s ≤ (2 * 32767) ^ 40 ∧ (2 * 32767) ^ 40 < (2 * gain s + 1) ^ 40 * 10 ^ s) ∧
  gain 255 = 0 ∧
  (∀ a d, a ≤ 80 → (a + d ≤ 80 → bedFactor a d = gain (a + d)) ∧ (80 ≤ a + d → bedFactor a d = 328) ∧
    bedFactor 255 d = 0) ∧
  (∀ (x : Int) (f : Nat), 2 * (mixTerm x f).natAbs * 32768 ≤ 2 * x.natAbs * f + 32768 ∧
    2 * x.natAbs * f + 32768 < 2 * ((mixTerm x f).natAbs + 1) * 32768 ∧ (0 ≤ x → 0 ≤ mixTerm x f) ∧
    (x ≤ 0 → mixTerm x f ≤ 0)) ∧
  (∀ v : Int, -32768 ≤ saturate v ∧ saturate v ≤ 32767 ∧ (-32768 ≤ v → v ≤ 32767 → saturate v = v) ∧
    (32767 ≤ v → saturate v = 32767) ∧ (v ≤ -32768 → saturate v = -32768)) ∧
  (∀ (k : Duck) (depth ramp moved : Nat) (now : Stamp),
    ramp * moved ≤ depth * elapsed now k.t0 → depth * elapsed now k.t0 < ramp * (moved + 1) →
    (k.up = true → k.value depth ramp now = min depth (k.start + moved)) ∧
    (k.up = false → k.value depth ramp now = k.start - moved) ∧ (k.start ≤ depth → k.value depth ramp now ≤ depth)) ∧
  (∀ (r : Ramp) (now : Stamp),
    let e := elapsed now r.t0
    let v := r.value now
    let first := if r.start = 255 then 80 else r.start
    let last := if r.target = 255 then 80 else r.target
    (r.duration ≤ e → v = r.target) ∧
    (e < r.duration →
      (first ≤ last → first ≤ v ∧ v ≤ last ∧ r.duration * (v - first) ≤ (last - first) * e ∧
        (last - first) * e < r.duration * (v - first + 1)) ∧
      (last ≤ first → last ≤ v ∧ v ≤ first ∧ r.duration * (first - v) ≤ (first - last) * e ∧
        (first - last) * e < r.duration * (first - v + 1)))) ∧
  (∀ b : Buffer,
    let last := b.slots.getLast?.bind (·.block)
    let blocks := ceilDiv b.length 256
    let next := last.bind fun k => if k + 1 < blocks then some (k + 1) else if b.loops then some 0 else none
    let freed (position : Nat) : Buffer × Nat :=
      ({ b with slots := b.slots.drop 1 ++ [{ block := next, content := .empty }], position := position }, 1)
    (b.length ≤ b.position → b.advance = (b, 0)) ∧
    (b.position + 1 < b.length → (b.position + 1) % 256 ≠ 0 → b.advance = ({ b with position := b.position + 1 }, 0)) ∧
    (b.position + 1 < b.length → (b.position + 1) % 256 = 0 → b.advance = freed (b.position + 1)) ∧
    (b.position + 1 = b.length → b.loops = true → b.advance = freed 0) ∧
    (b.position + 1 = b.length → b.loops = false → b.advance = ({ b with position := b.length }, 0))) ∧
  ∀ (m : Mixer) (now : Stamp),
    let on (b : Buffer) (n : Nat) : Buffer := (fun x : Buffer => x.advance.1)^[n] b
    let gives (b : Buffer) : Int := if b.length ≤ b.position then 0 else match b.slots with
      | { block := _, content := .filled samples } :: _ => samples.getD (b.position % 256) 0
      | _ => 0
    let slotsFreed (b : Buffer) : Nat := ((List.range 24).map fun n => (on b n).advance.2).sum
    let used (b : Fin 8) : Option Buffer :=
      if b.val < 4 then (m.zones.get (bufferZone b)).voice.map (·.buffer) else (m.zones.get (bufferZone b)).bed
    (m.millisecond now).read = m.read.map (fun r => match r.target with
      | .slot b (some i) =>
        let n := (used b).elim 0 slotsFreed
        { r with target := .slot b (if n ≤ i then some (i - n) else none) }
      | _ => r) ∧
    (∃ zones read, m.millisecond now = { m with zones := zones, read := read }) ∧
    ∀ z, ∃ ramp duck,
      let x := m.zones.get z
      let sample (n : Nat) : Int :=
        saturate (mixTerm (x.voice.elim 0 fun v => gives (on v.buffer n)) (x.voice.elim 0 fun v => gain v.item.attenuation)
          + mixTerm (x.bed.elim 0 fun b => gives (on b n)) (bedFactor (x.ramp.value now) (x.duckValue now)))
      (m.millisecond now).zones.get z = { x with
        voice := x.voice.map fun v => { v with buffer := on v.buffer 24 }, bed := x.bed.map fun b => on b 24,
        ramp := ramp, duck := duck,
        output := if x.muted then List.replicate 24 0 else (List.range 24).map sample } ∧
      ramp.value now = x.ramp.value now ∧ duck.value x.defn.depth x.defn.ramp now = x.duckValue now

/-! Start-up and the links. -/

/-- POWER_ON, in any state: every block takes its power-on values, the run time is 0, loading begins with the flash
held for the image, the outputs are dark, and the strap gives the baud rate (R4, R38, R41, R53, R99, R102, R129, R132,
R140, R153, R154, R160 to R166, R174). Every latch is clear, every stack and queue is empty, and the raw lines stand.
The flash is the one found, or the one the part left (assumption log 29). That the scene table, cue memory and the clip
directory hold the empty show until loading ends is the model's choice (assumption log 36). -/
def Obligations.PowerOnStartsLoading : Prop :=
  ∀ (s : State) (strap : Baud) (found : Option FoundFlash), ∃ t, exec (.powerOn strap found) s = .next t ∧
    t.clock.runTime = 0 ∧ t.clock.phase = 0 ∧ t.clock.trimInUse = 0 ∧ t.clock.trimPending = 0 ∧ t.clock.time = none ∧
    t.clock.firing = false ∧ t.link = Link.start strap ∧ t.link.outbox = [] ∧ t.link.missed = 0 ∧
    (∀ p, (t.port p).receiver = .hunting ∧ (t.port p).pending = none ∧ (t.port p).replies = [] ∧
      (t.port p).transmitter = .idle) ∧
    t.owner = { owner := .showLink, take := none, silence := none } ∧
    t.sched.mode = .closed ∧ t.sched.returnMode = .closed ∧ t.sched.serviceReturn = .closed ∧ t.sched.suspended = false ∧
    t.sched.queue = [] ∧ (∀ c, t.sched.contexts.get c = none) ∧
    (∀ a, t.sched.axisClaims.get a = { holder := none, promise := none }) ∧
    (∀ z, t.sched.zoneClaims.get z = { holder := none, promise := none }) ∧
    (∀ i, (t.sched.scenes.get i).record = none ∧ (t.sched.scenes.get i).state = .off ∧ (t.sched.scenes.get i).runs = 0) ∧
    (∀ l, t.cues.get l = []) ∧ (∀ c, (t.light.snapshot.channels.get c).output = 0) ∧
    t.light.nextFrame = none ∧
    (∀ c, (t.light.channels.get c).stack = [] ∧ (t.light.channels.get c).handover = none ∧
      (t.light.channels.get c).test = none ∧ (t.light.channels.get c).levelBlend = none ∧
      (t.light.channels.get c).masterFade = none) ∧
    (∀ g, (t.light.groups.get g).phase = .clear ∧ (t.light.groups.get g).thermal = .normal ∧
      (t.light.groups.get g).derate = 100 ∧ (t.light.groups.get g).lineActive = false ∧
      (t.light.groups.get g).holdExpiry = none) ∧
    (∀ a, (t.motion.axes.get a).state = .unhomed ∧ (t.motion.axes.get a).position = none ∧
      (t.motion.axes.get a).travel = none ∧ (t.motion.axes.get a).target = none ∧ (t.motion.axes.get a).kind = none ∧
      (t.motion.axes.get a).waiting = [] ∧ (t.motion.axes.get a).travelCause = false ∧
      (t.motion.axes.get a).driverCause = false ∧ (t.motion.axes.get a).travelLatch = false ∧
      (t.motion.axes.get a).home.line = (s.motion.axes.get a).home.line ∧
      (t.motion.axes.get a).low.line = (s.motion.axes.get a).low.line ∧
      (t.motion.axes.get a).high.line = (s.motion.axes.get a).high.line) ∧
    (∀ g, t.motion.groups.get g = { thermal := .normal, derate := 100, lineActive := false, latch := false }) ∧
    (∀ z, t.motion.occupied.get z = false) ∧ t.motion.estop = false ∧
    (∀ c, t.mixer.clips.get c = .empty) ∧ t.mixer.latch = false ∧ t.mixer.read = none ∧ t.mixer.probeAt = none ∧
    t.mixer.probeOwed = false ∧ (∀ z, t.mixer.occupied.get z = false) ∧
    (∀ z, (t.mixer.zones.get z).voice = none ∧ (t.mixer.zones.get z).waiting = [] ∧ (t.mixer.zones.get z).bed = none ∧
      (t.mixer.zones.get z).duck = { start := 0, up := false, t0 := 0 } ∧ (t.mixer.zones.get z).muted = false ∧
      (t.mixer.zones.get z).output = List.replicate 24 0) ∧
    (∀ n, (t.supervisor.sensors.get n).reading = .absent ∧ (t.supervisor.sensors.get n).thermal = .normal ∧
      (t.supervisor.sensors.get n).faultLatch = false ∧ (t.supervisor.sensors.get n).hotSeen = false ∧
      (t.supervisor.sensors.get n).criticalSeen = false) ∧
    (∀ g, (t.supervisor.lampLines.get g).latch = false ∧ (t.supervisor.lampLines.get g).filter.active = false) ∧
    (∀ g, (t.supervisor.axisLines.get g).latch = false ∧ (t.supervisor.axisLines.get g).filter.active = false) ∧
    t.supervisor.estop.active = false ∧ t.supervisor.nextSample = none ∧ t.delivery = Delivery.empty ∧
    (∀ i, (t.inputs.lines.get i).count = 0 ∧ (t.inputs.lines.get i).high = (s.inputs.lines.get i).high ∧
      (t.inputs.lines.get i).active = false ∧ (t.inputs.lines.get i).stuckLatch = false ∧
      (t.inputs.lines.get i).capture = { pending := false, stamp := none, time := none }) ∧
    (∀ z, (t.inputs.zones.get z).state = .clear ∧ (t.inputs.zones.get z).expiry = none) ∧
    t.store.load = .loading ∧ t.store.kind = .powerOn ∧ t.store.held = some .image ∧ t.store.job = none ∧
    t.store.queued = [] ∧ t.store.writes = [] ∧
    (∀ f, found = some f → t.store.clips = canonicalCells f.clips ∧ t.store.image = f.image) ∧
    (found = none → s.store.held ≠ some .clipWrite → t.store.clips = s.store.clips ∧ t.store.image = s.store.image)

/-- The end of loading: with a valid image the load state is LOADED and the working definitions are the image's, a
WRITING clip taken as EMPTY; with any other it is EMPTY and they are the empty show's. The first notice is STARTUP
with the reason and the image's length (R123, R174 to R176). After a Restart the trim stays the Clock's own (R154).
1.5 s after start-up began the load fails with READ_FAILED and the show is empty. The reason is the first check that
fails: a failed read, the length field, the CRC, the ranges, the cross-references (R174). The length reported for a
read that failed is 0 (assumption log 29); an image with no bytes fails the check of its length (assumption log 3),
and an axis whose min is above its max the check of the ranges (assumption log 40). -/
def Obligations.LoadEndMakesWorkingDefinitions : Prop :=
  (∀ (s : State) (readFailed : Bool), s.store.load = .loading → elapsed s.now 0 ≤ 1500 → s.quiet = true →
     ∃ t, exec (.loadEnd readFailed) s = .next t ∧
       (let reason := imageReason s.store.image readFailed
        let trim := if s.store.kind = .powerOn then (loadedShow s.store.image reason).trim else s.clock.trimPending
        t.definitions = { loadedShow s.store.image reason with trim := trim } ∧
        (t.store.load = if reason.isNone then .loaded else .empty) ∧
        t.clock.firing = true ∧ t.clock.time = s.clock.time ∧
        t.link = s.link.told ⟨s.now, .startup reason.isNone s.store.kind reason
          (if reason = some .readFailed then 0 else s.store.image.lengthField.getD 0)⟩)) ∧
  (∀ s : State, s.store.load = .loading → 1500 ≤ elapsed s.now 0 → s.quiet = true → ∃ t,
     exec .imageReadTimeout s = .next t ∧ t.store.load = .empty ∧
       t.definitions = { emptyShow with trim := if s.store.kind = .powerOn then 0 else s.clock.trimPending } ∧
       t.link = s.link.told ⟨s.now, .startup false s.store.kind (some .readFailed) 0⟩) ∧
  (∀ (image : FlashImage), imageReason image true = some .readFailed ∧
    (∀ reason, reason ≠ none → loadedShow image reason = emptyShow) ∧
    let sized := image.lengthField = some image.bytes.length ∧ image.bytes ≠ []
    let sound := sized ∧ image.crcField = some (crc16 image.bytes)
    (¬ sized → imageReason image false = some .length) ∧ (sized → ¬ sound → imageReason image false = some .crc) ∧
    (sound → image.definitions = none → imageReason image false = some .range) ∧
    ∀ d, image.definitions = some d →
      (sound → rangesOk d = false → imageReason image false = some .range) ∧
      (sound → rangesOk d = true → crossReferencesOk d = false → imageReason image false = some .crossReference) ∧
      (sound → rangesOk d = true → crossReferencesOk d = true → imageReason image false = none) ∧
      (let show' := loadedShow image none
       show' = { d with clips := show'.clips } ∧
       (∀ c start length written, d.clips.get c = .writing start length written → show'.clips.get c = .empty) ∧
       ∀ c, (∀ start length written, d.clips.get c ≠ .writing start length written) →
         show'.clips.get c = d.clips.get c))

/-- The receiver (R160): an A5h starts a frame and its 25 ms timer, a bad length or stop bit and the timer's expiry
discard the frame with no reply, and any other byte short of the last is collected. A damaged frame is answered
BAD_FRAME, and a frame of an unknown kind UNKNOWN_KIND with the kind received, both with kind FFh (R161, R177). The
last byte of a frame with a good check does what the command does that the frame carries, its fields read from its body
by its kind (`frameCommand`), and of one with a wrong check what BAD_FRAME does. A byte with a bad stop bit while
HUNTING is passed over (assumption log 30), and the fields of a body with no layout are free; that a request whose rule
names no field has a body of length 0 is the model's choice (assumption log 5). -/
def Obligations.ReceiverTakesWholeFramesOnly : Prop :=
  (∀ (s : State) (p : Port) (byte : Byte) (ok : Bool), s.quiet = true →
     ((s.port p).receiver = .hunting → byte = 0xA5#8 → ok = true →
       exec (.byteArrival p byte ok) s = .next (s.receive p (.collecting [] (later s.now 25)))) ∧
     ((s.port p).receiver = .hunting → (byte ≠ 0xA5#8 ∨ ok = false) →
       exec (.byteArrival p byte ok) s = .next (s.receive p .hunting)) ∧
     (∀ bytes expiry, (s.port p).receiver = .collecting bytes expiry →
       (ok = false ∨ (bytes = [] ∧ (byte = 0#8 ∨ 250 < byte.toNat)) →
         exec (.byteArrival p byte ok) s = .next (s.receive p .hunting)) ∧
       (ok = true → (bytes = [] → byte ≠ 0#8 ∧ byte.toNat ≤ 250) →
         (∀ n rest, bytes = n :: rest → n ≠ 0#8 ∧ n.toNat ≤ 250 ∧ rest.length + 1 < n.toNat + 2) →
         exec (.byteArrival p byte ok) s = .next (s.receive p (.collecting (bytes ++ [byte]) expiry))) ∧
       (reached s.now expiry = true → exec (.frameTimerExpiry p) s = .next (s.receive p .hunting)))) ∧
  ((∀ (s : State) (p : Port), s.quiet = true → (s.port p).replies.length < 3 →
     exec (.badFrame p) s = .next (s.answered p 0xFF#8 .badFrame .empty)) ∧
   ∀ (s : State) (p : Port) (kind : Byte), s.Admits { port := p, lengthOk := true } → isRequestKind p kind.toNat = false →
     exec (.unknownKind p kind) s = .next ((s.heard p).answered p 0xFF#8 .unknownKind (.kindByte kind))) ∧
  ∀ (s : State) (p : Port) (kind : Byte) (body bytes : List Byte) (last : Byte) (expiry : Stamp),
    (s.port p).receiver = .collecting bytes expiry →
    (body.length ≤ 249 → frameBytes kind body = 0xA5#8 :: (bytes ++ [last]) →
      exec (.byteArrival p last true) s = exec (frameCommand p kind body) (s.receive p .hunting)) ∧
    (∀ n rest check, bytes ++ [last] = n :: rest ++ check → rest.length = n.toNat → check.length = 2 → n ≠ 0#8 →
      n.toNat ≤ 250 → leNat check ≠ (crc16 (n :: rest)).toNat →
      exec (.byteArrival p last true) s = exec (.badFrame p) (s.receive p .hunting))

/-- The bytes of a frame the part makes, after the sync byte and each with a good stop bit, are collected as one
complete frame that carries a good check, the kind and the body (sections 10.1 and 12.1). Every reply fits one frame,
its code and fields being at most 249 bytes, with the records that its rule allows it: at most 24 cue records of 10
bytes and 16 press records (R11, R66, R178). The length of a reply with no layout in chapter 12 is free within that
(assumption log 5). -/
def Obligations.FrameBytesAreCollectedWhole : Prop :=
  (∀ r : Reply, (∀ length free cues, r.body = .cues length free cues → cues.length ≤ 24) →
    (∀ records, r.body = .presses records → records.length ≤ 16) →
    ∃ body, replyFrame r = frameBytes r.kind body ∧ body.length ≤ 249) ∧
  (∀ q : Cue, (cueBytes q).length = 10) ∧
  ∀ (kind : Byte) (body : List Byte) (now expiry : Stamp), body.length ≤ 249 →
    ∃ bytes last, frameBytes kind body = 0xA5#8 :: (bytes ++ [last]) ∧
      bytes.foldl (fun r b => match Receiver.take r now b true with
        | .receiver r' => r'
        | .complete _ => .hunting) (.collecting [] expiry) = .collecting bytes expiry ∧
      Receiver.take (.collecting bytes expiry) now last true = .complete (bytes ++ [last]) ∧
      (let all := bytes ++ [last]
       let covered := all.take (all.length - 2)
       (crc16 covered).toNat = leNat (all.drop (all.length - 2)) ∧ covered.getD 1 0#8 = kind ∧ covered.drop 2 = body)

/-- TRANSMIT_DONE: the transmitter goes on with the oldest reply, or on the show link with the oldest notice, which
takes the missed count with it, or becomes IDLE (R164, R165). RESTART is answered DONE, and from then on every request
frame of every kind is answered BUSY; when that reply has been sent, the part restarts: the Clock's time, phase and
trims run on while the run time is 0 again, the outbox is discarded and loading begins (R153, R154, R161, R170). -/
def Obligations.TransmitterPrefersRepliesAndRestarts : Prop :=
  (∀ (s : State) (p : Port), s.quiet = true → (s.port p).transmitter ≠ .idle → restartSent s.link p = false →
     (∀ r rest, (s.port p).replies = r :: rest → exec (.transmitDone p) s =
       .next (s.modPort p fun x => { x with transmitter := .reply r, replies := rest })) ∧
     ((s.port p).replies = [] → (p = .serviceLink ∨ s.link.outbox = []) → exec (.transmitDone p) s =
       .next (s.modPort p fun x => { x with transmitter := .idle })) ∧
     (∀ n rest, (s.port p).replies = [] → p = .showLink → s.link.outbox = n :: rest → exec (.transmitDone p) s =
       .next { s with link := { s.link with
         showPort := { s.link.showPort with transmitter := .notice n s.link.missed }, outbox := rest, missed := 0 } })) ∧
  ((∀ (s : State) (h : FrameHead), s.AdmitsOwned h → s.store.job = none → exec (.restart h) s =
     .next (State.answered { s.heard h.port with link := { s.link with restarting := some h.port } } h.port 0xAE#8 .done
       .restartTaken)) ∧
   (∀ (s : State) (p q : Port) (h : FrameHead), s.quiet = true → s.link.restarting = some q → h.port = p →
     (s.port p).replies.length < 3 →
     exec (.queryStatus h) s = .next ((s.heard p).answered p 0x81#8 .busy .empty) ∧
     ∀ (kind : Byte) body, isRequestKind p kind.toNat = true →
       exec (frameCommand p kind body) s = .next ((s.heard p).answered p (kind + 0x80#8) .busy .empty)) ∧
   ∀ (s : State) (p : Port), restartSent s.link p = true → ∃ t, exec (.transmitDone p) s = .next t ∧
     t.clock.runTime = 0 ∧ t.clock.time = s.clock.time ∧ t.clock.phase = s.clock.phase ∧
     t.clock.trimInUse = s.clock.trimInUse ∧ t.clock.trimPending = s.clock.trimPending ∧ t.clock.firing = false ∧
     t.link = Link.start s.link.baud ∧ t.store.load = .loading ∧ t.store.kind = .restart ∧ t.sched.mode = .closed ∧
     t.owner.owner = .showLink)

/-! Queries. -/

/-- QUERY STATUS is answered with the part's overall state, during loading as well, and changes nothing; every other
request, of every kind and on either link, is answered BUSY while the part is loading and changes nothing, whether it
comes as a command or as a frame (R161, R169). A request of a loaded part is then checked in order, and the first
general check that fails refuses it with nothing changed: its length, for every kind but WRITE CUES, whose own rule puts
that check later; control, for a request that needs it; the mode; a STORE SHOW in progress (R163). RESUME SHOW, START
SCENE and TEST LEVEL order these checks by their own rules (R55, R57, R96); that JOG AXIS and PLAY CLIP check the mode
before control, as TEST LEVEL does, is the model's reading (assumption log 22). -/
def Obligations.StatusAloneIsAnsweredWhileLoading : Prop :=
  (∀ (s : State) (h : FrameHead), (s.port h.port).pending = none → s.link.restarting = none →
     (s.port h.port).replies.length < 3 → h.lengthOk = true → s.quiet = true →
     exec (.queryStatus h) s = .next ((s.heard h.port).answered h.port 0x81#8 .done (.status
       { load := s.store.load, mode := s.sched.mode, returnMode := s.sched.returnMode,
         serviceReturn := s.sched.serviceReturn, owner := s.owner.owner, take := s.owner.take,
         silenceLeft := (s.heard h.port).owner.silence.elim 0 (msLeft s.now), estopActive := s.supervisor.estop.active,
         storing := s.store.job.isSome, runTime := s.clock.runTime, time := s.clock.time,
         queueEntries := s.sched.queue.length, occupiedContexts := s.sched.contexts.rows.countP (·.isSome),
         outboxWaiting := s.link.outbox.length, missed := s.link.missed, baud := s.link.baud }))) ∧
  (∀ (p : Port) (kind : Byte) (body : List Byte), isRequestKind p kind.toNat = true →
     ∃ ok, requestOf (frameCommand p kind body) = some ({ port := p, lengthOk := ok }, kind.toNat)) ∧
  ∀ (s : State) (c : Instr) (h : FrameHead) (kind : Nat), requestOf c = some (h, kind) → s.quiet = true →
    (s.port h.port).replies.length < 3 →
    let refused (code : ReplyCode) : Prop :=
      exec c s = .next ((s.heard h.port).answered h.port (BitVec.ofNat 8 (kind + 0x80)) code .empty)
    (s.store.load = .loading → kind ≠ 0x01 → refused .busy) ∧
    (s.store.load ≠ .loading → (s.port h.port).pending = none → s.link.restarting = none →
      let mode := s.sched.mode
      let owned := s.owner.owner = h.port
      let barred : ReplyCode := if h.port = .showLink then .serviceHolds else .notOwner
      let define := 0x10 ≤ kind ∧ kind ≤ 0x1E
      let controlled := define ∨ kind = 0x20 ∨ kind = 0x21 ∨ (0x24 ≤ kind ∧ kind ≤ 0x2E) ∨ kind = 0x39
      let wrongMode := (define ∧ (mode = .opened ∨ mode = .standstill)) ∨
        ((kind = 0x20 ∨ kind = 0x21) ∧ (mode = .service ∨ mode = .standstill)) ∨
        ((kind = 0x2B ∨ kind = 0x2C) ∧ mode = .standstill)
      (h.lengthOk = false → kind ≠ 0x14 → refused .badBody) ∧
      (h.lengthOk = true ∨ kind = 0x14 →
        (controlled → ¬owned → refused barred) ∧
        (controlled → owned → wrongMode → refused .wrongMode) ∧
        (kind = 0x2D → owned → mode = .standstill → refused .estopActive) ∧
        (define ∨ kind = 0x2B ∨ kind = 0x2C ∨ kind = 0x2E → owned → ¬wrongMode → s.store.job ≠ none →
          refused .busy) ∧
        (kind = 0x38 → mode = .standstill → refused .estopActive) ∧
        (kind = 0x22 → (mode ≠ .standstill → refused .wrongMode) ∧
          (mode = .standstill → ¬owned → refused barred) ∧
          (mode = .standstill → owned → s.supervisor.estop.active = true → refused .estopActive)) ∧
        (∀ i : SceneId, c = .startScene h (unitNo i) → (mode = .standstill → refused .estopActive) ∧
          (mode ≠ .standstill → ¬owned ∨ (h.port = .showLink ∧ s.owner.take ≠ none) → refused barred)) ∧
        (0x30 ≤ kind ∧ kind ≤ 0x32 → (mode ≠ .service → refused .wrongMode) ∧
          (mode = .service → ¬owned → refused barred))))

/-- The queries that are answered at once report the state as it stands, field by field, and change nothing but the
port (R16, R36, R59, R66, R76, R98, R122, R138, R159). QUERY HEALTH takes the Supervisor's own part and stays pending;
each other block gives its part in an event of its own, and the last part brings the reply (R150, R161). The own part of
QUERY HEALTH is taken at the request (assumption log 26). That QUERY AUDIO gives no track for a clip that came without
WAIT (assumption log 23), the direction of an axis at rest, the form of the speed and the speed limit of an axis with no
move (assumption log 31), and the next record of a track that waits at the end of its list (assumption log 33) are the
model's choice. -/
def Obligations.QueriesReportAndChangeNothing : Prop :=
  (∀ (s : State) (h : FrameHead), s.Admits h →
     let left (due : Option Stamp) : Nat := due.elim 0 fun t => if reached s.now t then 0 else elapsed t s.now
     let sceneOf' (c : CtxId) : Option SceneId := (s.sched.contexts.get c).map (·.scene)
     let claim : Resource → Claim
       | .axis a => s.sched.axisClaims.get a
       | .zone z => s.sched.zoneClaims.get z
     let resources : List Resource := (units 12).map .axis ++ (units 4).map .zone
     exec (.queryZones h) s = .next ((s.heard h.port).answered h.port 0x82#8 .done (.zones
       ((units 8).map fun z => let x := s.inputs.zones.get z
         { state := x.state, hold := x.hold, left := left x.expiry,
           members := ((units 16).filter fun i => let p := (s.inputs.lines.get i).profile
             decide (p.role = .presence ∧ p.zone = some z)).length })
       (s.inputs.lines.rows.map fun l =>
         { role := l.profile.role, high := l.high, active := l.active, held := l.held, stuckRun := l.stuckRun,
           stuckLatch := l.stuckLatch }))) ∧
     (∀ (i : SceneId) r, (s.sched.scenes.get i).record = some r →
       let x := s.sched.scenes.get i
       exec (.queryScene h (unitNo i)) s = .next ((s.heard h.port).answered h.port 0x83#8 .done (.scene
         { record := r, state := x.state, context := x.context, started := x.started, restUntil := x.restUntil,
           endCause := x.endCause, restLeft := left x.restUntil, runs := x.runs, ready := x.ready,
           lines := (units 16).map s.sched.readyLine }))) ∧
     (∀ (i : SceneId), (s.sched.scenes.get i).record = none →
       exec (.queryScene h (unitNo i)) s = .next ((s.heard h.port).answered h.port 0x83#8 .notDefined
         (.undefinedScene (s.sched.scenes.get i).runs (s.sched.scenes.get i).started (s.sched.scenes.get i).endCause))) ∧
     exec (.queryQueue h 1) s = .next ((s.heard h.port).answered h.port 0x84#8 .done
       (.queueEntries s.sched.mode s.sched.suspended (s.sched.queue.map fun e =>
         { scene := e.scene, source := e.source, priority := e.priority, arrival := e.arrival,
           preempting := e.preempting, expiryLeft := if e.preempting then none else some (left (some e.expiry)),
           promised := resources.filter fun r => decide ((claim r).promise = some e.scene) }))) ∧
     exec (.queryQueue h 2) s = .next ((s.heard h.port).answered h.port 0x84#8 .done (.queueClaims
       (resources.map fun r =>
         { resource := r, holder := (claim r).holder, scene := (claim r).holder.bind sceneOf',
           promised := (claim r).promise })
       (s.sched.contexts.rows.map fun x => x.map fun k =>
         { scene := k.scene, state := (s.sched.scenes.get k.scene).state,
           left := left (if k.deadline.isSome then k.deadline else k.returnLimit), journal := k.journal }))) ∧
     (∀ c : CtxId, s.sched.contexts.get c = none → exec (.queryTracks h (unitNo c)) s =
       .next ((s.heard h.port).answered h.port 0x85#8 .done .freeContext)) ∧
     (∀ (c : CtxId) x, s.sched.contexts.get c = some x → exec (.queryTracks h (unitNo c)) s =
       .next ((s.heard h.port).answered h.port 0x85#8 .done
         (.tracks x.scene (s.sched.scenes.get x.scene).state (x.tracks.map fun t =>
           let report (state : TrackState) (next due : Option Nat) (on : Option Awaited) : TrackReport :=
             { defn := t.defn, state := state, pass := t.pass, next := next, dueLeft := due, awaited := on }
           match t.phase with
           | .idle => report .idle none none none
           | .playing next _ _ due => report .playing (some next) (some (left (some due))) none
           | .waiting issued _ _ on => report .waiting (some (issued + 1)) none (some on)
           | .done => report .done none none none)))) ∧
     (∀ (l : ListId) offset count, 1 ≤ count → count ≤ 24 → offset + count ≤ (s.cues.get l).length →
       exec (.readCues h (unitNo l) offset count) s = .next ((s.heard h.port).answered h.port 0x86#8 .done
         (.cues (s.cues.get l).length (4096 - cueCount s.cues) (((s.cues.get l).drop offset).take count)))) ∧
     exec (.queryLevels h) s = .next ((s.heard h.port).answered h.port 0x87#8 .done (.levels s.light.snapshot)) ∧
     exec (.queryAxes h) s = .next ((s.heard h.port).answered h.port 0x88#8 .done (.axes
       ((units 12).map fun a =>
         let x := s.motion.axes.get a
         let k := x.point s.now
         let homing := x.state = .homing
         { enabled := x.defn.enabled, state := x.state,
           position := if x.travel = none then x.position else x.position.map fun _ => k.step.toNat,
           target := if x.state = .moving ∨ x.state = .held then x.target else none, kind := x.kind,
           holder := (s.sched.axisClaims.get a).holder, speed := k.speed, roots := k.roots,
           upward := if homing ∨ x.stoppedHoming then false else k.upward,
           speedLimit := x.limit (s.motion.groups.get (groupOfAxis a)) (if homing then x.defn.homingSpeed else x.cruise),
           guardEffect := x.guardEffect, home := x.home.active, low := x.low.active, high := x.high.active,
           travelCause := x.travelCause, driverCause := x.driverCause, travelLatch := x.travelLatch,
           steps := if homing then some (if x.travel = none then x.steps else k.step.toNat) else none,
           paused := x.paused })
       (s.motion.groups.rows.map fun g =>
         { thermal := g.thermal, derate := g.derate, lineActive := g.lineActive, latch := g.latch }))) ∧
     (∀ clip,
       let slots (b : Option Buffer) : List SlotState := match b with
         | none => [.empty, .empty, .empty, .empty]
         | some b => b.slots.map fun t => match t.content with
           | .empty => .empty
           | .reading => .reading
           | .filled _ => .filled
       let report (x : ListedClip) (position : Nat) : VoiceReport :=
         { clip := x.clip, position := position, attenuation := x.attenuation, scene := x.ctx.bind sceneOf',
           track := x.track.map fun t => t.track + 1 }
       let blocks : ClipEntry → Nat
         | .empty => 0
         | .writing _ length _ => ceilDiv length 256
         | .defined _ length => ceilDiv length 256
       exec (.queryAudio h clip) s = .next ((s.heard h.port).answered h.port 0x89#8 .done (.audio
         { zones := s.mixer.zones.rows.map fun z =>
             { defn := z.defn, voice := z.voice.map fun v => report v.item v.buffer.position,
               waiting := z.waiting.map fun x => report x 0, bedPlaying := z.bed.isSome,
               bedPosition := z.bed.elim 0 fun b => b.position, bedAttenuation := z.ramp.value s.now,
               bedTarget := z.ramp.target, duck := z.duck.value z.defn.depth z.defn.ramp s.now, duckUp := z.duck.up,
               muted := z.muted, voiceSlots := slots (z.voice.map (·.buffer)), bedSlots := slots z.bed },
           latch := s.mixer.latch, answering := s.mixer.answering,
           freeBlocks := 131072 - (s.mixer.clips.rows.map blocks).sum, entry := clip.map s.mixer.clips.get }))) ∧
     exec (.queryClock h) s = .next ((s.heard h.port).answered h.port 0x8B#8 .done (.clock
       { runTime := s.clock.runTime, time := s.clock.time, phase := s.clock.phase, trimInUse := s.clock.trimInUse,
         trimPending := s.clock.trimPending, timetable := s.clock.timetable.rows }))) ∧
  ((∀ (s : State) (h : FrameHead), s.Admits h → exec (.queryHealth h) s =
     .next ((s.heard h.port).modPort h.port fun x => { x with pending := some (.health s.ownHealth none none none) })) ∧
   (∀ (s : State) (p : Port) own travel, s.quiet = true → (s.port p).pending = some (.health own none travel none) →
     exec (.healthPartGathered p .inputs) s = .next (s.modPort p fun x => { x with
       pending := some (.health own (some (s.inputs.lines.rows.map (·.stuckLatch))) travel none) })) ∧
   (∀ (s : State) (p : Port) own stuck, s.quiet = true → (s.port p).pending = some (.health own stuck none none) →
     exec (.healthPartGathered p .motion) s = .next (s.modPort p fun x => { x with
       pending := some (.health own stuck (some (s.motion.axes.rows.map (·.travelLatch))) none) })) ∧
   ∀ (s : State) (p : Port) own stuck travel, s.quiet = true →
     (s.port p).pending = some (.health own (some stuck) (some travel) none) →
     exec (.healthPartGathered p .mixer) s = .next ((s.modPort p fun x => { x with pending := none }).answered p 0x8A#8
       .done (.health { own := own, stuck := stuck, travel := travel, clipStore := s.mixer.latch })))

/-! Visitor inputs and floor zones. -/

/-- DEFINE INPUT: the input takes the profile and starts again under it, seeded with the sense of its line and keeping
its count, capture record and stuck latch; no other input changes, and of the floor zones only those the input left or
joined. A zone joined ACTIVE is occupied, and one left without members is CLEAR (R2, R13, R14). Where both the zone
left and the zone joined change, the change of the first is delivered before that of the second, which follows it (R14;
the form of a delivery is the model's, assumption log 12). The profile is the body's, field by field, its settings
clamped and what its role does not use at the defaults; that an UNUSED input's debounce is stored as 20 ms is the
model's choice (assumption log 24). A body with an identifier out of range is refused (R1). DEFINE ZONE sets the hold
time of a zone, clamped to 30,000 ms, and nothing else; COLLECT PRESSES gives every press record and clears it (R11,
R12). -/
def Obligations.InputsAndZonesAreDefined : Prop :=
  (∀ (s : State) (h : FrameHead) (b : InputBody), s.AdmitsDefine h →
     b.input < 1 ∨ 16 < b.input ∨ 2 < b.role ∨ 1 < b.polarity ∨
       (b.role = 1 ∧ (64 < b.scene ∨ 1 < b.capture ∨ 1 < b.notify)) ∨ (b.role = 2 ∧ (b.zone < 1 ∨ 8 < b.zone)) →
     exec (.defineInput h b) s = .next ((s.heard h.port).answered h.port 0x90#8 .badBody .empty)) ∧
  (∀ (s : State) (h : FrameHead) (b : InputBody) (i : InputId) (p : InputProfile) (adjusted : Bool),
     let profile : InputProfile :=
       { role := .unused, polarity := if b.polarity = 0 then .activeHigh else .activeLow, debounce := 20, zone := none,
         scene := none, capture := .first, stuckLimit := 60, notify := false }
     let debounce := max 2 (min 250 b.debounce)
     let stuck := max 5 (min 600 b.stuckLimit)
     s.AdmitsDefine h → unitNo i = b.input → b.polarity ≤ 1 →
     (b.role = 0 ∧ p = profile ∧ adjusted = false) ∨
       (b.role = 1 ∧ b.capture ≤ 1 ∧ b.notify ≤ 1 ∧ (∃ scene, optUnitNo scene = b.scene ∧ p = { profile with
         role := .button, debounce := debounce, scene := scene, capture := if b.capture = 0 then .first else .latest,
         stuckLimit := stuck, notify := decide (b.notify = 1) }) ∧
         adjusted = decide (debounce ≠ b.debounce ∨ stuck ≠ b.stuckLimit)) ∨
       (b.role = 2 ∧ (∃ z, unitNo z = b.zone ∧ p = { profile with
         role := .presence, debounce := debounce, zone := some z }) ∧ adjusted = decide (debounce ≠ b.debounce)) →
     let old := s.inputs.lines.get i
     let active := decide (p.role ≠ .unused) && sense p.polarity old.high
     let line := { old with profile := p, active := active, debounce := none, seeded := true,
                            since := if active then some s.now else none, held := 0, stuckRun := false }
     ∃ zones delivery,
       exec (.defineInput h b) s = .next (State.answered { s.heard h.port with
         inputs := { lines := s.inputs.lines.set i line, zones := zones }, delivery := delivery } h.port 0x90#8
         (doneOr adjusted) .empty) ∧
       (∀ z, memberZone old.profile ≠ some z → memberZone p ≠ some z → zones.get z = s.inputs.zones.get z) ∧
       (memberZone old.profile = none → memberZone p = none → delivery = s.delivery) ∧
       (∀ z, memberZone p = some z → active = true → (zones.get z).state = .occupied) ∧
       (∀ z, memberZone old.profile = some z → memberZone p ≠ some z →
         (∀ j, j ≠ i → memberZone (s.inputs.lines.get j).profile ≠ some z) → (zones.get z).state = .clear) ∧
       ∀ z z', memberZone old.profile = some z → memberZone p = some z' → z ≠ z' →
         let change (z : FloorZone) (follows : Option FloorZone) : List ZoneChange :=
           if (zones.get z).state = (s.inputs.zones.get z).state then [] else [⟨z, (zones.get z).state, follows⟩]
         let made := change z none ++ change z' (if change z none = [] then none else some z)
         delivery = { s.delivery with zoneScheduler := s.delivery.zoneScheduler ++ made,
                                      zoneMotion := s.delivery.zoneMotion ++ made,
                                      zoneMixer := s.delivery.zoneMixer ++ made }) ∧
  ((∀ (s : State) (h : FrameHead) (z : FloorZone) (hold : Nat), s.AdmitsDefine h →
     exec (.defineZone h (unitNo z) hold) s = .next (State.answered { s.heard h.port with
       inputs := { s.inputs with zones := s.inputs.zones.set z { s.inputs.zones.get z with hold := min 30000 hold } } }
       h.port 0x91#8 (if 30000 < hold then .adjusted else .done) .empty)) ∧
   ∀ (s : State) (h : FrameHead), s.AdmitsOwned h →
     exec (.collectPresses h) s = .next (State.answered { s.heard h.port with
       inputs := { s.inputs with lines := .ofFn fun i => { s.inputs.lines.get i with
         count := 0, capture := { pending := false, stamp := none, time := none } } } } h.port 0xA7#8 .done
       (.presses ((units 16).map fun i =>
         { count := (s.inputs.lines.get i).count, capture := (s.inputs.lines.get i).capture }))))

/-- The debounce of an input: a change of the line starts it or cancels it, and before the first sample restarts
it; at its expiry the filtered level takes the sense of the line, with no press where the change is a seed, is to
INACTIVE or falls in a stuck run (R3 to R5). -/
def Obligations.InputLevelsAreDebounced : Prop :=
  ∀ (s : State) (i : InputId), s.quiet = true →
    let l := s.inputs.lines.get i
    let active := sense l.profile.polarity l.high
    (∀ high, l.high ≠ high → l.profile.role ≠ .unused → l.seeded = true →
      exec (.inputLineChange i high) s = .next (s.modInput i fun l => { l with
        high := high,
        debounce := if sense l.profile.polarity high = l.active then none else some (later s.now l.profile.debounce) })) ∧
    (∀ high expiry, l.high ≠ high → l.profile.role ≠ .unused → l.seeded = false → l.debounce = some expiry →
      exec (.inputLineChange i high) s = .next (s.modInput i fun l => { l with
        high := high, debounce := some (later s.now l.profile.debounce) })) ∧
    (∀ high, l.high ≠ high → l.profile.role = .unused →
      exec (.inputLineChange i high) s = .next (s.modInput i fun l => { l with high := high })) ∧
    (expired s.now l.debounce = true → l.profile.role = .button →
      (l.seeded = false ∨ active = false ∨ l.stuckRun = true) →
      exec (.debounceExpiry i) s = .next (s.modInput i fun l => { l with
        active := active, debounce := none, seeded := true, since := if active then some s.now else none, held := 0,
        stuckRun := l.stuckRun && active }))

/-- A press counts, captures by its mode, sends its PRESS notice if notify is on, and then passes its scene request:
while the show is CLOSED the request is dropped with a DROPPED notice after the PRESS notice (R5 to R8, R37).
STUCK_EXPIRY: a BUTTON held ACTIVE for its stuck limit sets its stuck run and latch and sends a FAULT notice
(R9, R149). -/
def Obligations.PressesCountAndHeldButtonsStick : Prop :=
  (∀ (s : State) (i : InputId), s.quiet = true →
     let l := s.inputs.lines.get i
     let capture : Capture := if l.profile.capture = .latest ∨ l.capture.pending = false then
         { pending := true, stamp := some s.now, time := s.clock.time } else l.capture
     let line := { l with active := true, debounce := none, seeded := true, since := some s.now, held := 0,
                          count := if l.count < 65535 then l.count + 1 else l.count, capture := capture }
     let t := s.modInput i fun _ => line
     expired s.now l.debounce = true → l.profile.role = .button → l.seeded = true → l.stuckRun = false →
     sense l.profile.polarity l.high = true →
     (l.profile.scene = none → l.profile.notify = false → exec (.debounceExpiry i) s = .next t) ∧
     (l.profile.scene = none → l.profile.notify = true →
       exec (.debounceExpiry i) s = .next (t.told (.press i line.count capture none))) ∧
     ∀ j, l.profile.scene = some j → s.sched.mode = .closed → s.sched.suspended = false → s.sched.queue = [] →
       l.profile.notify = true →
       exec (.debounceExpiry i) s =
         .next (t.places [.press i line.count capture (some j), .dropped j (.visitor i) .closed]).sends) ∧
  (∀ (s : State) (i : InputId) (since : Stamp), s.quiet = true →
     let l := s.inputs.lines.get i
     l.profile.role = .button → l.active = true → l.stuckRun = false → l.since = some since →
     reached s.now (later since (1000 * l.profile.stuckLimit)) = true →
     exec (.stuckExpiry i) s = .next ((s.modInput i fun l => { l with stuckRun := true, stuckLatch := true }).told
       (.fault .stuckInput (unitNo i) l.stuckLatch)))

/-- A floor zone is OCCUPIED while a member is ACTIVE, HOLDING for its hold time after the last, and CLEAR when the
hold expires or at once where it is 0; each change is delivered to the Scheduler, the Motion Controller and the Mixer
(R13, R15). That it is appended to one queue for each of the three blocks is the model's choice (assumption log 12). -/
def Obligations.FloorZonesFollowTheirMembers : Prop :=
  (∀ (s : State) (i : InputId) (z : FloorZone), s.quiet = true →
    let l := s.inputs.lines.get i
    let active := sense l.profile.polarity l.high
    let x := s.inputs.zones.get z
    let after (state : ZoneState) (expiry : Option Stamp) : State := { s with
      inputs := { lines := s.inputs.lines.set i { l with
                    active := active, debounce := none, seeded := true,
                    since := if active then some s.now else none, held := 0, stuckRun := l.stuckRun && active },
                  zones := s.inputs.zones.set z { x with state := state, expiry := expiry } },
      delivery := { s.delivery with zoneScheduler := s.delivery.zoneScheduler ++ [⟨z, state, none⟩],
                                    zoneMotion := s.delivery.zoneMotion ++ [⟨z, state, none⟩],
                                    zoneMixer := s.delivery.zoneMixer ++ [⟨z, state, none⟩] } }
    expired s.now l.debounce = true → l.profile.role = .presence → l.profile.zone = some z →
    (active = true → x.state ≠ .occupied → exec (.debounceExpiry i) s = .next (after .occupied none)) ∧
    (active = false → x.state = .occupied →
      (∀ j, j ≠ i → memberZone (s.inputs.lines.get j).profile = some z → (s.inputs.lines.get j).active = false) →
      (x.hold ≠ 0 → exec (.debounceExpiry i) s = .next (after .holding (some (later s.now x.hold)))) ∧
      (x.hold = 0 → exec (.debounceExpiry i) s = .next (after .clear none)))) ∧
  ∀ (s : State) (z : FloorZone) (expiry : Stamp), s.quiet = true → (s.inputs.zones.get z).state = .holding →
    (s.inputs.zones.get z).expiry = some expiry → reached s.now expiry = true →
    exec (.holdExpiry z) s = .next { s with
      inputs := { s.inputs with
        zones := s.inputs.zones.set z { s.inputs.zones.get z with state := .clear, expiry := none } },
      delivery := { s.delivery with zoneScheduler := s.delivery.zoneScheduler ++ [⟨z, .clear, none⟩],
                                    zoneMotion := s.delivery.zoneMotion ++ [⟨z, .clear, none⟩],
                                    zoneMixer := s.delivery.zoneMixer ++ [⟨z, .clear, none⟩] } }

/-! Acknowledgements (section 8.5). -/

/-- ACKNOWLEDGE FAULTS: a latch of the Supervisor's own is answered at once, CLEARED only while its condition is gone;
an entry for a latch of another block leaves the request pending, and that block answers it: CLEARED with the
condition gone, STILL_PRESENT otherwise, WAS_CLEAR for a latch that is clear; with the last answer the reply is placed
(R10, R115, R128, R147, R148). Each block answers the first entry it has not answered (assumption log 26). A list of 1
to 32 entries of any kinds, a unit of 0 standing for every unit of its kind in ascending order, is answered in list
order, a latch named twice twice; here with no driver-fault latch that it clears, whose clearing goes on to the
Scheduler and, for an axis group, to the axes: that is given for one entry of each. A list that expands to more than 64
entries is refused, and so is one with a kind or a unit out of range. -/
def Obligations.AcknowledgementsClearWhatIsGone : Prop :=
  let size (kind : Nat) : Nat := [0, 6, 3, 4, 4, 4, 16, 12, 1].getD kind 0
  let named (latches : List (Nat × Nat)) : List (Nat × Nat) :=
    latches.flatMap fun e => if e.2 = 0 then (List.range (size e.1)).map fun k => (e.1, k + 1) else [e]
  (∀ (s : State) (h : FrameHead) (latches : List (Nat × Nat)), s.AdmitsOwned h → s.sched.queue = [] →
    1 ≤ latches.length → latches.length ≤ 32 → (∀ e ∈ latches, 1 ≤ e.1 ∧ e.1 ≤ 8 ∧ e.2 ≤ size e.1) →
    let v := s.supervisor
    let all := named latches
    all.length ≤ 64 →
    (∀ g, (1, unitNo g) ∈ all → (v.lampLines.get g).latch = true → (v.lampLines.get g).filter.active = true) →
    (∀ g, (2, unitNo g) ∈ all → (v.axisLines.get g).latch = true → (v.axisLines.get g).filter.active = true) →
    let answer (j : Nat) (e : Nat × Nat) (latch present : Bool) : Option AckOutcome := some
      (if latch = false then .wasClear else if present then .stillPresent
       else if e ∈ all.take j then .wasClear else .cleared)
    let t : State := { s.heard h.port with supervisor := { v with sensors := .ofFn fun n =>
      let x := v.sensors.get n
      { x with faultLatch := x.faultLatch && !decide ((3, unitNo n) ∈ all ∧ x.reading ≠ .invalid),
               hotSeen := x.hotSeen && !decide ((4, unitNo n) ∈ all ∧ x.thermal = .normal),
               criticalSeen := x.criticalSeen && !decide ((5, unitNo n) ∈ all ∧ x.thermal ≠ .critical) } } }
    ∃ entries : List AckEntry,
      ((∀ e ∈ latches, e.1 ≤ 5) → exec (.acknowledgeFaults h latches.length latches) s =
        .next (t.answered h.port 0xA8#8 .done (.acks entries))) ∧
      ((∃ e ∈ latches, 5 < e.1) → exec (.acknowledgeFaults h latches.length latches) s =
        .next (t.modPort h.port fun x => { x with pending := some (.acknowledge entries) })) ∧
      entries.length = all.length ∧
      ∀ (j : Nat) (e : Nat × Nat), all[j]? = some e → ∃ x : AckEntry, entries[j]? = some x ∧ x.unit = e.2 ∧
        (∀ g, e = (1, unitNo g) → x.kind = .lampDriver ∧
          x.outcome = answer j e (v.lampLines.get g).latch (v.lampLines.get g).filter.active) ∧
        (∀ g, e = (2, unitNo g) → x.kind = .axisDriver ∧
          x.outcome = answer j e (v.axisLines.get g).latch (v.axisLines.get g).filter.active) ∧
        (∀ n, e = (3, unitNo n) → x.kind = .sensor ∧
          x.outcome = answer j e (v.sensors.get n).faultLatch (decide ((v.sensors.get n).reading = .invalid))) ∧
        (∀ n, e = (4, unitNo n) → x.kind = .hotSeen ∧
          x.outcome = answer j e (v.sensors.get n).hotSeen (decide ((v.sensors.get n).thermal ≠ .normal))) ∧
        (∀ n, e = (5, unitNo n) → x.kind = .criticalSeen ∧
          x.outcome = answer j e (v.sensors.get n).criticalSeen (decide ((v.sensors.get n).thermal = .critical))) ∧
        (e.1 = 6 → x.kind = .stuckInput ∧ x.outcome = none) ∧ (e.1 = 7 → x.kind = .axisTravel ∧ x.outcome = none) ∧
        (e.1 = 8 → x.kind = .clipStore ∧ x.outcome = none)) ∧
  ((∀ (s : State) (h : FrameHead) (n : Sensor), s.AdmitsOwned h → s.sched.queue = [] →
     let x := s.supervisor.sensors.get n
     let o := if x.faultLatch = false then .wasClear else if x.reading = .invalid then .stillPresent else .cleared
     exec (.acknowledgeFaults h 1 [(3, unitNo n)]) s = .next (State.answered { s.heard h.port with
       supervisor := { s.supervisor with sensors := s.supervisor.sensors.set n { x with
         faultLatch := x.faultLatch && decide (x.reading = .invalid) } } } h.port 0xA8#8 .done
       (.acks [{ kind := .sensor, unit := unitNo n, outcome := some o }]))) ∧
   (∀ (s : State) (h : FrameHead) (g : LampGroup), s.AdmitsOwned h → s.sched.queue = [] →
     (s.supervisor.lampLines.get g).latch = true → (s.supervisor.lampLines.get g).filter.active = false →
     exec (.acknowledgeFaults h 1 [(1, unitNo g)]) s = .next (State.answered { s.heard h.port with
       supervisor := { s.supervisor with
         lampLines := s.supervisor.lampLines.set g { s.supervisor.lampLines.get g with latch := false } },
       sched := Scheduler.reviewed { s.sched with seen := { s.sched.seen with
         lampLatch := s.sched.seen.lampLatch.set g false } } s.motion.axes (usesLamps · g) } h.port 0xA8#8 .done
       (.acks [{ kind := .lampDriver, unit := unitNo g, outcome := some .cleared }]))) ∧
   (∀ (s : State) (h : FrameHead) (g : AxisGroup), s.AdmitsOwned h → s.sched.queue = [] →
     (s.supervisor.axisLines.get g).latch = true → (s.supervisor.axisLines.get g).filter.active = false →
     let axes : Table 12 AxisRec := .ofFn fun a => let x := s.motion.axes.get a
       if groupOfAxis a = g then { x with
         driverCause := false, state := if x.state = .faulted ∧ x.travelCause = false then .unhomed else x.state } else x
     exec (.acknowledgeFaults h 1 [(2, unitNo g)]) s = .next (State.answered { s.heard h.port with
       supervisor := { s.supervisor with
         axisLines := s.supervisor.axisLines.set g { s.supervisor.axisLines.get g with latch := false } },
       motion := { s.motion with
         axes := axes, groups := s.motion.groups.set g { s.motion.groups.get g with latch := false } },
       sched := Scheduler.reviewed { s.sched with seen := { s.sched.seen with
         axisLatch := s.sched.seen.axisLatch.set g false } } axes (usesAxes · g) } h.port 0xA8#8 .done
       (.acks [{ kind := .axisDriver, unit := unitNo g, outcome := some .cleared }]))) ∧
   (∀ (s : State) (h : FrameHead) (i : InputId) (a : Axis), s.AdmitsOwned h → s.sched.queue = [] →
     exec (.acknowledgeFaults h 3 [(6, unitNo i), (7, unitNo a), (8, 1)]) s = .next ((s.heard h.port).modPort h.port
       fun x => { x with pending := some (.acknowledge
         [{ kind := .stuckInput, unit := unitNo i, outcome := none },
          { kind := .axisTravel, unit := unitNo a, outcome := none },
          { kind := .clipStore, unit := 1, outcome := none }]) })) ∧
   ∀ (s : State) (h : FrameHead) (count : Nat) (latches : List (Nat × Nat)), s.AdmitsOwned h →
     (count = 0 ∨ 32 < count ∨ latches.length ≠ count ∨ (∃ e ∈ latches, e.1 = 0 ∨ 8 < e.1 ∨ size e.1 < e.2) ∨
       64 < (named latches).length) →
     exec (.acknowledgeFaults h count latches) s = .next ((s.heard h.port).answered h.port 0xA8#8 .badBody .empty)) ∧
  (∀ (s : State) (p : Port), s.quiet = true → s.sched.queue = [] →
     let answer (t : State) (kind : LatchKind) (unit : Nat) (o : AckOutcome) : State :=
       (t.modPort p fun x => { x with pending := none }).answered p 0xA8#8 .done
         (.acks [{ kind := kind, unit := unit, outcome := some o }])
     let asked (kind : LatchKind) (unit : Nat) : Prop :=
       (s.port p).pending = some (.acknowledge [{ kind := kind, unit := unit, outcome := none }])
     (∀ i : InputId, asked .stuckInput (unitNo i) →
       let l := s.inputs.lines.get i
       exec (.ackStuckInput p) s = .next (answer (s.modInput i fun l => { l with
         stuckLatch := l.stuckLatch && l.stuckRun }) .stuckInput (unitNo i)
         (if l.stuckLatch = false then .wasClear else if l.stuckRun then .stillPresent else .cleared))) ∧
     (∀ a : Axis, asked .axisTravel (unitNo a) →
       let x := s.motion.axes.get a
       (x.travelLatch = true → x.low.active = false → x.high.active = false → x.state = .faulted →
         x.driverCause = false → exec (.ackAxisTravel p) s =
           .next (let axes := s.motion.axes.set a { x with travelLatch := false, travelCause := false, state := .unhomed }
             answer { s with motion := { s.motion with axes := axes },
                             sched := s.sched.reviewed axes (·.axes.contains a) } .axisTravel (unitNo a) .cleared)) ∧
       (x.travelLatch = true → (x.low.active = true ∨ x.high.active = true) →
         exec (.ackAxisTravel p) s = .next (answer s .axisTravel (unitNo a) .stillPresent)) ∧
       (x.travelLatch = false → exec (.ackAxisTravel p) s = .next (answer s .axisTravel (unitNo a) .wasClear))) ∧
     (asked .clipStore 1 →
       (s.mixer.latch = true → s.mixer.answering = true →
         exec (.ackClipStore p) s = .next (State.settled (State.answer { s with
           mixer := (units 4).foldl Mixer.startBed { s.mixer with latch := false, probeAt := none, probeOwed := false },
           sched := Scheduler.reviewed { s.sched with seen := { s.sched.seen with clipFault := false } } s.motion.axes
             (!·.zones.isEmpty) } p 0xA8#8 .done
             (.acks [{ kind := .clipStore, unit := 1, outcome := some .cleared }])))) ∧
       (s.mixer.latch = true → s.mixer.answering = false →
         exec (.ackClipStore p) s = .next (answer s .clipStore 1 .stillPresent)) ∧
       (s.mixer.latch = false → exec (.ackClipStore p) s = .next (answer s .clipStore 1 .wasClear))))

/-! Scenes and cue lists. The statements about a request take it with an empty queue, as it is in the modes that take
definitions. -/

/-- DEFINE SCENE replaces or removes a record: the scene is IDLE if it was OFF and the record is enabled, OFF if it is
not, and evaluated at once. A scene in use is refused, and so is a record whose claims its lists break (R32 to R34). A
body is refused where an identifier is out of its range, and otherwise gives the record field by field, each setting
clamped to its range with the reply then ADJUSTED; with track count 0 only the scene and the count are read (R32). That
bits 5 to 7 of the readiness mask are ignored is the model's choice (assumption log 24). -/
def Obligations.DefinedSceneTakesItsRecord : Prop :=
  (∀ b : SceneBody,
    (sceneOf b = none ↔ ¬(1 ≤ b.scene ∧ b.scene ≤ 64 ∧ (b.trackCount = 0 ∨ (b.trackCount ≤ 4 ∧
      b.tracks.length = b.trackCount ∧ (∀ t ∈ b.tracks, 1 ≤ t.list ∧ t.list ≤ 128 ∧ 1 ≤ t.mode ∧ t.mode ≤ 3) ∧
      b.enabled ≤ 1 ∧ b.lamps < 2 ^ 48 ∧ b.axes < 2 ^ 12 ∧ b.zones < 2 ^ 4 ∧ b.audience ≤ 8 ∧ b.readyLine ≤ 16 ∧
      b.followOn ≤ 64)))) ∧
    (∀ (s : State) (h : FrameHead), s.AdmitsDefine h → sceneOf b = none →
      exec (.defineScene h b) s = .next ((s.heard h.port).answered h.port 0x92#8 .badBody .empty)) ∧
    ∀ (i : SceneId) (r : Option SceneRecord) (adjusted : Bool), sceneOf b = some (i, r, adjusted) →
      unitNo i = b.scene ∧ (r = none ↔ b.trackCount = 0) ∧ (r = none → adjusted = false) ∧
      ∀ d, r = some d →
        d.enabled = decide (b.enabled = 1) ∧ d.priority = max 1 (min 15 b.priority) ∧
        d.lamps = (units 48).filter (fun c => b.lamps.testBit c.val) ∧
        d.axes = (units 12).filter (fun a => b.axes.testBit a.val) ∧
        d.zones = (units 4).filter (fun z => b.zones.testBit z.val) ∧
        d.mask = { axes := b.mask.testBit 0, lamps := b.mask.testBit 1, narration := b.mask.testBit 2,
                   audience := b.mask.testBit 3, guarded := b.mask.testBit 4 } ∧
        optUnitNo d.audience = b.audience ∧ optUnitNo d.readyLine = b.readyLine ∧ optUnitNo d.followOn = b.followOn ∧
        d.waitLimit = min 120 b.waitLimit ∧ d.maxRun = max 1 (min 1800 b.maxRun) ∧ d.release = min 10000 b.release ∧
        d.rest = min 600 b.rest ∧ d.tracks.length = b.tracks.length ∧
        (∀ (k : Nat) (t : TrackBody), b.tracks[k]? = some t → ∃ u : TrackDef, d.tracks[k]? = some u ∧
          unitNo u.list = t.list ∧
          (t.mode = 1 → u.mode = .once ∧ u.passes = 0) ∧
          (t.mode = 2 → u.mode = .repeated ∧ u.passes = max 2 (min 255 t.passes)) ∧
          (t.mode = 3 → u.mode = .loop ∧ u.passes = 0)) ∧
        adjusted = decide (d.priority ≠ b.priority ∨ d.waitLimit ≠ b.waitLimit ∨ d.maxRun ≠ b.maxRun ∨
          d.release ≠ b.release ∨ d.rest ≠ b.rest ∨
          ∃ t ∈ b.tracks, t.mode = 2 ∧ (t.passes < 2 ∨ 255 < t.passes))) ∧
  ∀ (s : State) (h : FrameHead) (b : SceneBody) (i : SceneId) (r : Option SceneRecord) (adjusted : Bool),
    s.AdmitsDefine h → s.sched.queue = [] → sceneOf b = some (i, r, adjusted) →
    let x := s.sched.scenes.get i
    let on := r.any (·.enabled)
    let state := if on then (if x.state = .off then .idle else x.state) else .off
    let scene := { x with record := r, restUntil := if on then x.restUntil else none, state := state,
                          ready := readinessOf r s.sched.seen s.motion.axes s.sched.mode }
    (engaged x.state = false → (∀ d, r = some d → sceneFails s.cues d = none) →
      exec (.defineScene h b) s = .next ((State.places { s.heard h.port with
          sched := { s.sched with scenes := s.sched.scenes.set i scene } }
          (if state = x.state then [] else [.scene i x.state state none none x.runs])).reply h.port 0x92#8
          (doneOr adjusted) .empty).sends) ∧
    ((x.state = .queued ∨ x.state = .running ∨ x.state = .returning) →
      exec (.defineScene h b) s = .next ((s.heard h.port).answered h.port 0x92#8 .inUse .empty)) ∧
    ∀ d k offset, engaged x.state = false → r = some d → sceneFails s.cues d = some (k, offset) →
      exec (.defineScene h b) s = .next ((s.heard h.port).answered h.port 0x92#8 .badBody (.badTrack k offset))

/-- SIZE CUE LIST keeps a list's first records and adds records that are MARK 0 with delta 0; WRITE CUES replaces the
records from its offset on and no other. Neither changes anything else (R60 to R64). WRITE CUES is refused for an empty
list, a count, length or range that does not fit, the first record whose parameters do not pass (CueFlagsKeptByKind),
and a list in use, in this order (R63, R65); that the offset it then names is the record's in the list is the model's
choice (assumption log 23). -/
def Obligations.CueListsAreSizedAndWritten : Prop :=
  (∀ (s : State) (h : FrameHead) (l : ListId) (offset count : Nat) (records : List CueBody),
    s.AdmitsDefine { h with lengthOk := true } →
    let cues := s.cues.get l
    let answer (code : ReplyCode) (body : ReplyBody) : Prop :=
      exec (.writeCues h (unitNo l) offset count records) s = .next ((s.heard h.port).answered h.port 0x94#8 code body)
    let fits := h.lengthOk = true ∧ 1 ≤ count ∧ count ≤ 24 ∧ records.length = count ∧ offset + count ≤ cues.length
    (cues = [] → answer .notDefined .empty) ∧ (cues ≠ [] → ¬fits → answer .badBody .empty) ∧
    (fits → ∀ (k : Nat) (b : CueBody), records[k]? = some b → cueOf b = none →
      (∀ (j : Nat) (c : CueBody), j < k → records[j]? = some c → cueOf c ≠ none) → answer .badBody (.badRecord (offset + k))) ∧
    (fits → (∀ b ∈ records, cueOf b ≠ none) → listInUse s.sched.scenes l = true → answer .inUse .empty)) ∧
  ∀ (s : State) (h : FrameHead) (l : ListId), s.AdmitsDefine h → listInUse s.sched.scenes l = false →
    (∀ length : Nat,
      let n := min 512 length
      let cues := (s.cues.get l).take n ++ List.replicate (n - (s.cues.get l).length)
        { delta := 0, wait := false, cut := false, occupiedOnly := false, act := .mark 0 }
      let lists := s.cues.set l cues
      listBreaks s.sched.scenes lists l = none →
      (n - (s.cues.get l).length ≤ 4096 - cueCount s.cues →
        exec (.sizeCueList h (unitNo l) length) s = .next (State.answered { s.heard h.port with cues := lists } h.port
          0x93#8 (if 512 < length then .adjusted else .done) (.listSize n (4096 - cueCount lists)))) ∧
      (4096 - cueCount s.cues < n - (s.cues.get l).length →
        exec (.sizeCueList h (unitNo l) length) s = .next ((s.heard h.port).answered h.port 0x93#8 .noRoom .empty))) ∧
    ∀ (offset count : Nat) (records : List CueBody) (qs : List (Cue × Bool)), records.map cueOf = qs.map some →
      let lists := s.cues.set l ((s.cues.get l).take offset ++ qs.map (·.1) ++ (s.cues.get l).drop (offset + count))
      1 ≤ count → count ≤ 24 → records.length = count → offset + count ≤ (s.cues.get l).length →
      listBreaks s.sched.scenes lists l = none →
      exec (.writeCues h (unitNo l) offset count records) s = .next (State.answered { s.heard h.port with cues := lists }
        h.port 0x94#8 (doneOr (qs.any (·.2))) (.cuesWritten l offset count))

/-- ENABLE SCENE makes an OFF scene IDLE and evaluates it; DISABLE SCENE makes an IDLE or RESTING scene OFF, ends its
rest, and removes a QUEUED scene's entry with a DROPPED notice (R18, R35, R44). -/
def Obligations.ScenesAreEnabledAndDisabled : Prop :=
  ∀ (s : State) (h : FrameHead) (i : SceneId) (r : SceneRecord), s.AdmitsOwned h →
    let x := s.sched.scenes.get i
    let entered (t : Scheduler) (scene : Scene) (kind : Byte) (notices : List NoticeBody) : State :=
      ((State.places { s.heard h.port with sched := { t with scenes := t.scenes.set i scene } } notices).reply h.port kind
        .done .empty).sends
    x.record = some r →
    (s.sched.queue = [] → x.state = .off → exec (.enableScene h (unitNo i)) s =
      .next (entered s.sched { x with
        record := some { r with enabled := true }, state := .idle,
        ready := readinessOf (some { r with enabled := true }) s.sched.seen s.motion.axes s.sched.mode } 0xA5#8
        [.scene i .off .idle none none x.runs])) ∧
    (s.sched.queue = [] → x.state ≠ .off → exec (.enableScene h (unitNo i)) s =
      .next (entered s.sched { x with record := some { r with enabled := true } } 0xA5#8 [])) ∧
    (s.sched.queue = [] → (x.state = .idle ∨ x.state = .resting) → exec (.disableScene h (unitNo i)) s =
      .next (entered s.sched { x with
        record := some { r with enabled := false }, restUntil := none, state := .off, ready := Readiness.none } 0xA6#8 [.scene i x.state .off none none x.runs])) ∧
    (∀ e, s.sched.queue = [e] → e.scene = i → x.state = .queued → exec (.disableScene h (unitNo i)) s =
      .next (entered (Scheduler.unpromised { s.sched with queue := [] } i)
        { x with record := some { r with enabled := false }, restUntil := none, state := .off,
                 ready := Readiness.none } 0xA6#8
        [.dropped i e.source .disabled, .scene i .queued .off none none x.runs])) ∧
    ((x.state = .running ∨ x.state = .returning) → exec (.disableScene h (unitNo i)) s =
      .next ((s.heard h.port).answered h.port 0xA6#8 .inUse .empty))

/-! The show mode. -/

/-- The show mode changes with a MODE notice and the readiness of every scene: by OPEN SHOW and CLOSE SHOW, at the
emergency stop, which records the mode to return to, and by RESUME SHOW, which is refused outside STANDSTILL and while
the line is active (R53 to R55). That the Resume goes to the Lighting Engine and the Mixer alone, and not also to the
Motion Controller, on which it would act on nothing, is the model's choice (assumption log 12). -/
def Obligations.ShowModeChangesWithItsNotice : Prop :=
  ∀ s : State, s.sched.queue = [] → (∀ c, s.sched.contexts.get c = none) →
    let modes (m ret : Mode) : Scheduler :=
      Scheduler.reviewed { s.sched with mode := m, returnMode := ret } s.motion.axes fun _ => true
    (∀ h : FrameHead, s.AdmitsOwned h →
      (s.sched.mode = .closed → exec (.openShow h) s = .next ((State.places { s.heard h.port with
        sched := modes .opened s.sched.returnMode } [.mode .closed .opened s.sched.returnMode .openShow]).reply h.port
        0xA0#8 .done .empty).sends) ∧
      (s.sched.mode = .opened → exec (.openShow h) s = .next ((s.heard h.port).answered h.port 0xA0#8 .done .empty)) ∧
      (∀ form, form ≤ 1 → s.sched.mode = .opened → exec (.closeShow h form) s = .next ((State.places
        { s.heard h.port with sched := modes .closed s.sched.returnMode }
        [.mode .opened .closed s.sched.returnMode .closeShow]).reply h.port 0xA1#8 .done .empty).sends) ∧
      (∀ form, form ≤ 1 → s.sched.mode = .closed →
        exec (.closeShow h form) s = .next ((s.heard h.port).answered h.port 0xA1#8 .done .empty)) ∧
      (s.sched.mode = .standstill → s.supervisor.estop.active = false → exec (.resumeShow h) s = .next ((State.places
        { s.heard h.port with
            sched := modes s.sched.returnMode s.sched.returnMode,
            delivery := { s.delivery with stopLighting := s.delivery.stopLighting ++ [.resume],
                                          stopMixer := s.delivery.stopMixer ++ [.resume] } }
        [.mode .standstill s.sched.returnMode s.sched.returnMode .resume]).reply h.port 0xA2#8 .done .empty).sends) ∧
      (s.sched.mode = .standstill → s.supervisor.estop.active = true →
        exec (.resumeShow h) s = .next ((s.heard h.port).answered h.port 0xA2#8 .estopActive .empty)) ∧
      (s.sched.mode ≠ .standstill →
        exec (.resumeShow h) s = .next ((s.heard h.port).answered h.port 0xA2#8 .wrongMode .empty))) ∧
    ∀ rest, s.quiet = true → s.delivery.stopScheduler = .on :: rest → s.sched.mode ≠ .standstill →
      exec .estopOnScheduler s = .next (State.told { s with
        sched := modes .standstill s.sched.mode, delivery := { s.delivery with stopScheduler := rest } }
        (.mode s.sched.mode .standstill s.sched.mode .estop))

/-! Starts, stops and ends of scenes. -/

/-- START SCENE while the show is OPEN and no other entry waits: a scene that is not ready waits QUEUED for its wait
limit, or with limit 0 is dropped EXPIRED at once; a scene that is ready, with its claims free, starts in the
lowest-numbered free context. It holds its claims, its deadline runs, and its tracks play from their first records
(R19, R20, R38, R40, R42, R45, R57, R67). On each channel it claims, once for each naming, it opens a contribution idle
at the channel's present level (R84), placed under those of higher priority and above the others (R83); one that becomes
the top cancels the handover and a blend toward normal. That a base blend runs on is the model's choice (assumption log
34), and so is the count of starts that gives the context its serial (assumption log 6). -/
def Obligations.RequestedScenesWaitOrStart : Prop :=
  ∀ (s : State) (h : FrameHead) (i : SceneId) (r : SceneRecord), s.Admits h → s.owner.owner = h.port →
    s.owner.take = none → s.sched.mode = .opened → s.sched.suspended = false → s.sched.queue = [] →
    let x := s.sched.scenes.get i
    let source : Source := if h.port = .showLink then .showLink else .serviceLink
    let firstDelta (d : TrackDef) : Nat := (s.cues.get d.list).head?.elim 0 (·.delta)
    let replied (sched : Scheduler) (light : Lighting) (notices : List NoticeBody) (o : StartOutcome) : State :=
      ((State.places { s.heard h.port with sched := sched, light := light } notices).reply h.port 0xA3#8 .done
        (.start o)).sends
    x.record = some r → x.state = .idle →
    (x.ready.overall = false → r.waitLimit ≠ 0 → exec (.startScene h (unitNo i)) s = .next (replied
      { s.sched with
          queue := [{ scene := i, source := source, priority := r.priority, arrival := s.now,
                      expiry := later s.now (1000 * r.waitLimit), preempting := false }],
          scenes := s.sched.scenes.set i { x with state := .queued } }
      s.light [.scene i .idle .queued none none x.runs] (.queued false 1))) ∧
    (x.ready.overall = false → r.waitLimit = 0 → exec (.startScene h (unitNo i)) s = .next (replied
      (s.sched.unpromised i) s.light [.dropped i source .expired] .expired)) ∧
    ∀ c : CtxId, x.ready.overall = true → (∀ a ∈ r.axes, s.sched.axisClaims.get a = ⟨none, none⟩) →
      (∀ z ∈ r.zones, s.sched.zoneClaims.get z = ⟨none, none⟩) → s.sched.contexts.get c = none →
      (∀ b, b < c → s.sched.contexts.get b ≠ none) → 1 ≤ r.tracks.length → r.tracks.length ≤ 4 →
      (∀ d ∈ r.tracks, ∃ q rest, s.cues.get d.list = q :: rest ∧ 1 ≤ q.delta ∧ q.delta ≤ 65535) →
      ∃ axisClaims zoneClaims, exec (.startScene h (unitNo i)) s = .next (replied
        { s.sched with
            axisClaims := axisClaims, zoneClaims := zoneClaims,
            contexts := s.sched.contexts.set c (some
              { scene := i, journal := [], deadline := some (later s.now (1000 * r.maxRun)), returnLimit := none,
                serial := s.sched.starts + 1,
                tracks := r.tracks.map fun d =>
                  { defn := d, pass := 1, phase := .playing 0 s.now s.now (later s.now (firstDelta d)) } }),
            scenes := s.sched.scenes.set i { x with
              state := .running, context := some c, started := some s.now, restUntil := none,
              runs := if x.runs < 65535 then x.runs + 1 else x.runs },
            starts := s.sched.starts + 1 }
        { s.light with channels := r.lamps.foldl (fun t ch => t.modify ch fun y =>
            y.openFor (s.light.groups.get (groupOfChannel ch)).phase s.now c r.priority) s.light.channels }
        [.scene i .idle .running (some c) none (if x.runs < 65535 then x.runs + 1 else x.runs)] (.started c)) ∧
        (∀ a, axisClaims.get a = if a ∈ r.axes then ⟨some c, none⟩ else (s.sched.unpromised i).axisClaims.get a) ∧
        (∀ z, zoneClaims.get z = if z ∈ r.zones then ⟨some c, none⟩ else (s.sched.unpromised i).zoneClaims.get z) ∧
        ∀ (x : ChannelState) (phase : EstopPhase), ∃ above below,
          let level := (x.level phase s.now).1
          let own : Contribution :=
            { ctx := c, priority := r.priority, fade := { start := level, target := level, t0 := 0, duration := 0 } }
          x.stack = above ++ below ∧ (∀ y ∈ above, r.priority < y.priority) ∧
          (∀ y, below.head? = some y → y.priority ≤ r.priority) ∧
          x.openFor phase s.now c r.priority =
            if (above ++ [own]).head?.map (·.ctx) = some c then { x with
              stack := above ++ own :: below, handover := none, levelBlend := x.levelBlend.filter (·.toBase) }
            else { x with stack := above ++ own :: below }

/-- The end of a scene that holds no axis and no sound zone and has moved none: STOP SCENE in either form, or its
deadline, frees its context, takes its contributions off its channels and leaves it RESTING for its rest time, or IDLE
with rest time 0, with the end cause (R21, R23, R48, R58). Of a channel in its normal phase whose top contribution is
removed, a handover starts from the level the channel had come to, over the release time; with release time 0 a running
one ends; and of any other channel only the contribution goes (R86, R87). -/
def Obligations.EndedScenesFreeTheirContext : Prop :=
  ∀ (s : State) (c : CtxId) (k : Context) (r : SceneRecord), s.quiet = true → s.sched.queue = [] →
    s.sched.contexts.get c = some k → k.journal = [] →
    let i := k.scene
    let x := s.sched.scenes.get i
    x.record = some r → x.state = .running → (∀ a, (s.sched.axisClaims.get a).holder ≠ some c) →
    (∀ z, (s.sched.zoneClaims.get z).holder ≠ some c) →
    let light : Lighting := { s.light with
      channels := .ofFn fun ch =>
        let y := s.light.channels.get ch
        if ch ∈ r.lamps then y.removeFor (s.light.groups.get (groupOfChannel ch)).phase s.now c r.release else y }
    (∀ (y : ChannelState) (phase : EstopPhase),
      let left := { y with stack := y.stack.filter (·.ctx ≠ c) }
      (phase ≠ .clear ∨ (∀ top, y.stack.head? = some top → top.ctx ≠ c) →
        y.removeFor phase s.now c r.release = left) ∧
      ∀ top, y.stack.head? = some top → top.ctx = c →
        let own := fadeValue top.fade.start top.fade.target (elapsed s.now top.fade.t0) top.fade.duration
        let from' := match y.handover with
          | some h => if elapsed s.now h.t0 < h.duration then fadeValue h.start own (elapsed s.now h.t0) h.duration
                      else own
          | none => own
        y.removeFor .clear s.now c r.release = { left with
          handover := if r.release = 0 then none else some { start := from', t0 := s.now, duration := r.release } }) ∧
      let sched (cause : EndCause) : Scheduler := { s.sched with
        contexts := s.sched.contexts.set c none, scenes := s.sched.scenes.set i (x.ended s.now (some cause) r.rest) }
      let notice (cause : EndCause) : NoticeBody :=
        .scene i .running (if r.rest = 0 then .idle else .resting) none (some cause) x.runs
      (∀ (h : FrameHead) (form : Nat), s.AdmitsOwned h → x.context = some c → form ≤ 1 →
        exec (.stopScene h (unitNo i) form) s = .next ((State.places { s.heard h.port with
          sched := sched .stopped, light := light } [notice .stopped]).reply h.port 0xA4#8 .done .empty).sends) ∧
      ((∃ due, k.deadline = some due ∧ reached s.now due = true) →
        exec (.deadlineExpiry c) s = .next (State.told { s with
          sched := sched .timeout, light := light } (notice .timeout)))

/-- A QUEUED scene leaves the queue, with a DROPPED notice, when STOP SCENE names it or its expiry is reached, and is
IDLE again; an IDLE, RESTING or OFF scene absorbs a stop (R20, R40, R58). -/
def Obligations.QueuedScenesLeaveTheQueue : Prop :=
  ∀ (s : State) (i : SceneId) (e : Entry), s.quiet = true →
    let x := s.sched.scenes.get i
    let sched : Scheduler := { Scheduler.unpromised { s.sched with queue := [] } i with
      scenes := s.sched.scenes.set i { x with state := .idle } }
    (s.sched.queue = [e] → e.scene = i → x.state = .queued →
      (∀ (h : FrameHead) (form : Nat), s.AdmitsOwned h → x.record ≠ none → form ≤ 1 →
        exec (.stopScene h (unitNo i) form) s = .next ((State.places { s.heard h.port with sched := sched }
          [.dropped i e.source .stopped, .scene i .queued .idle none none x.runs]).reply h.port 0xA4#8 .done
          .empty).sends) ∧
      (e.preempting = false → reached s.now e.expiry = true →
        exec (.entryExpiry i) s = .next (State.places { s with sched := sched }
          [.dropped i e.source .expired, .scene i .queued .idle none none x.runs]).sends)) ∧
    ∀ (h : FrameHead) (form : Nat), s.AdmitsOwned h → x.record ≠ none → form ≤ 1 →
      (x.state = .off ∨ x.state = .idle ∨ x.state = .resting) →
      exec (.stopScene h (unitNo i) form) s = .next ((s.heard h.port).answered h.port 0xA4#8 .absorbed .empty)

/-- A rest that expires makes the scene IDLE and evaluates it; a return limit that expires abandons the return still
under way, stops its axis, frees the context and ends the scene (R21, R23, R51). -/
def Obligations.RestsAndReturnsEnd : Prop :=
  ∀ s : State, s.quiet = true → s.sched.queue = [] →
    (∀ (i : SceneId) (until' : Stamp),
      let x := s.sched.scenes.get i
      x.state = .resting → x.restUntil = some until' → reached s.now until' = true →
      exec (.restExpiry i) s = .next (State.told { s with sched := { s.sched with scenes := s.sched.scenes.set i { x with
          restUntil := none, state := .idle, ready := readinessOf x.record s.sched.seen s.motion.axes s.sched.mode } } }
        (.scene i .resting .idle none none x.runs))) ∧
    ∀ (c : CtxId) (k : Context) (r : SceneRecord) (a : Axis) (position : Nat) (due : Stamp),
      let i := k.scene
      let x := s.sched.scenes.get i
      let y := s.motion.axes.get a
      s.sched.contexts.get c = some k → k.journal = [{ axis := a, position := position, outcome := .returning }] →
      k.returnLimit = some due → reached s.now due = true → x.record = some r → x.state = .returning →
      (s.sched.axisClaims.get a).holder = some c → y.state = .moving → y.kind = some (.ret c) →
      exec (.returnLimitExpiry c) s = .next (State.places { s with
        sched := { s.sched with
          axisClaims := s.sched.axisClaims.set a { s.sched.axisClaims.get a with holder := none },
          contexts := s.sched.contexts.set c none, scenes := s.sched.scenes.set i (x.ended s.now x.endCause r.rest) },
        motion := { s.motion with axes := s.motion.axes.set a { y with
          state := .stopping, target := none, kind := none, guardEffect := .none, paused := false, stoppedHoming := false,
          travel := some { t0 := s.now, start := y.point s.now, plan := .stop y.defn.accel } } } }
        [.abandoned a i position,
         .scene i .returning (if r.rest = 0 then .idle else .resting) none x.endCause x.runs]).sends

/-- The Scheduler takes the oldest change of a floor zone or of a sensor on its way to it, and evaluates the scenes it
concerns; entering CRITICAL with no scene running aborts nothing (R15, R25, R26, R48). A zone's change that follows
another zone's of the same DEFINE INPUT waits until that one has been taken (R14). That deliveries wait in order for
each block is the model's choice (assumption log 12). The readiness of every scene: each category as the table gives it,
from the axes and from the conditions last delivered; the overall result from those that the mask counts and from the
mode OPEN; and nothing of it satisfied for an undefined or disabled scene (R25, R28). -/
def Obligations.DeliveredChangesAreEvaluated : Prop :=
  (∀ (s : State) (i : SceneId),
    let record := (s.sched.scenes.get i).record
    let x := readinessOf record s.sched.seen s.motion.axes s.sched.mode
    let seen := s.sched.seen
    ((∀ r, record = some r → r.enabled = false) → x = ⟨false, false, false, false, false, false⟩) ∧
    ∀ r, record = some r → r.enabled = true →
      (x.axes = true ↔ ∀ a ∈ r.axes, (((s.motion.axes.get a).state = .idle ∨ (s.motion.axes.get a).state = .moving ∨
          (s.motion.axes.get a).state = .held) ∨
          ((s.motion.axes.get a).state = .stopping ∧ (s.motion.axes.get a).stoppedHoming = false)) ∧
        seen.axisLatch.get (groupOfAxis a) = false ∧ seen.axisCritical.get (groupOfAxis a) = false) ∧
      (x.lamps = true ↔ ∀ c ∈ r.lamps,
        seen.lampLatch.get (groupOfChannel c) = false ∧ seen.lampCritical.get (groupOfChannel c) = false) ∧
      (x.narration = true ↔ r.zones = [] ∨ seen.clipFault = false) ∧
      (x.audience = true ↔ ∀ z, r.audience = some z → seen.occupied.get z = true) ∧
      (x.guarded = true ↔ ∀ a ∈ r.axes, ∀ z, (s.motion.axes.get a).defn.guardZone = some z →
        seen.occupied.get z = false) ∧
      (x.overall = true ↔ s.sched.mode = .opened ∧ (r.mask.axes = true → x.axes = true) ∧
        (r.mask.lamps = true → x.lamps = true) ∧ (r.mask.narration = true → x.narration = true) ∧
        (r.mask.audience = true → x.audience = true) ∧ (r.mask.guarded = true → x.guarded = true))) ∧
  ∀ s : State, s.quiet = true → s.sched.queue = [] →
    (∀ (z : FloorZone) (change : ZoneState) (follows : Option FloorZone) (before after : List ZoneChange),
      s.delivery.zoneScheduler = before ++ ⟨z, change, follows⟩ :: after → (∀ y ∈ before, y.zone ≠ z) →
      (∃ y ∈ before, follows = some y.zone) → exec (.zoneChangeScheduler z) s = .next s) ∧
    (∀ (z : FloorZone) (change : ZoneState) (follows : Option FloorZone) (before after : List ZoneChange),
      s.delivery.zoneScheduler = before ++ ⟨z, change, follows⟩ :: after →
      (∀ y ∈ before, y.zone ≠ z ∧ follows ≠ some y.zone) →
      let t : State := { s with delivery := { s.delivery with zoneScheduler := before ++ after } }
      let occupied := decide (change ≠ .clear)
      (s.sched.seen.occupied.get z = occupied → exec (.zoneChangeScheduler z) s = .next t) ∧
      (s.sched.seen.occupied.get z ≠ occupied → exec (.zoneChangeScheduler z) s = .next { t with
        sched := Scheduler.reviewed { s.sched with seen := { s.sched.seen with
          occupied := s.sched.seen.occupied.set z occupied } } s.motion.axes fun r =>
            decide (r.audience = some z) || r.axes.any fun a => decide ((s.motion.axes.get a).defn.guardZone = some z) })) ∧
    ∀ (n : Sensor) (change : Thermal) (derate : Nat) (before after : List ThermalChange),
      s.delivery.thermalScheduler = before ++ ⟨n, change, derate⟩ :: after → (∀ y ∈ before, y.sensor ≠ n) →
      (change ≠ .critical ∨ ∀ c, s.sched.contexts.get c = none) →
      exec (.thermalChangeScheduler n) s = .next { s with
        delivery := { s.delivery with thermalScheduler := before ++ after },
        sched := Scheduler.reviewed { s.sched with seen := { s.sched.seen with
          lampCritical := .ofFn fun g => if (s.light.groups.get g).defn.sensor = some n then decide (change = .critical)
                                         else s.sched.seen.lampCritical.get g,
          axisCritical := .ofFn fun g => if s.supervisor.axisBindings.get g = some n then decide (change = .critical)
                                         else s.sched.seen.axisCritical.get g } } s.motion.axes fun r =>
          ((units 6).any fun g => decide ((s.light.groups.get g).defn.sensor = some n) && usesLamps r g) ||
          (units 3).any fun g => decide (s.supervisor.axisBindings.get g = some n) && usesAxes r g }

/-- CUE_ISSUE: a due record is handed on and its track goes on to the next, due its delta after the due time just
reached, or after the present where it waited and its completion is reported in the same event (R68 to R70). A MARK cue
gives its notice and a LAMP cue a fade of the context's contribution from its present value (R71, R72, R85). An AMBIENCE
cue ramps the bed of its zone from its present attenuation (R133), and a REQUEST cue is an arrival with source CHAIN,
dropped, absorbed or placed (R37, R72). An AXIS cue is skipped with its notice for the first reason that holds; an
accepted one sets the axis moving to the target within its soft limits, enters the return journal if it is the context's
first on an axis it holds, and its track waits if WAIT is set (R50, R73, R108). A NARRATE cue is skipped, starts its
clip, cuts with CUT, joins the list, or is dropped from a full one (R130). A record issued late counts from its due time
(assumption log 21), a clip that cuts a PLAYING voice leaves the duck as it is (assumption log 23), and the serial that
names a waiting track is the model's own (assumption log 6). -/
def Obligations.DueCuesAreIssued : Prop :=
  ∀ (s : State) (c : CtxId) (k : Context) (j : Nat) (t : Track) (next : Nat) (anchor pass due : Stamp) (q : Cue),
    s.quiet = true → s.sched.queue = [] → s.sched.contexts.get c = some k → k.tracks[j]? = some t →
    t.phase = .playing next anchor pass due → reached s.now due = true → (s.cues.get t.defn.list)[next]? = some q →
    let moved (journal : List JournalEntry) (phase : TrackPhase) : Scheduler := { s.sched with
      contexts := s.sched.contexts.set c (some { k with
        journal := journal, tracks := k.tracks.set j { t with phase := phase } }) }
    let after := moved k.journal
    (∀ q', (s.cues.get t.defn.list)[next + 1]? = some q' → reached s.now (later due q'.delta) = false →
      let sched := after (.playing (next + 1) due pass (later due q'.delta))
      (∀ m, q.act = .mark m → exec (.cueIssue c (j + 1)) s = .next (State.told { s with sched := sched }
        (.mark k.scene c (j + 1) t.pass next m))) ∧
      (∀ first last level fade, q.act = .lamp first last level fade →
        exec (.cueIssue c (j + 1)) s = .next { s with
          sched := sched,
          light := { s.light with channels := .ofFn fun ch =>
            if first ≤ ch ∧ ch ≤ last then { s.light.channels.get ch with
              stack := (s.light.channels.get ch).stack.map fun y => if y.ctx = c then { y with
                fade := { start := y.fade.value s.now, target := level, t0 := s.now, duration := fade } } else y }
            else s.light.channels.get ch } }) ∧
      (∀ z attenuation ramp, q.act = .ambience z attenuation ramp →
        let x := s.mixer.zones.get z
        let e := elapsed s.now x.ramp.t0
        let first := if x.ramp.start = 255 then 80 else x.ramp.start
        let last := if x.ramp.target = 255 then 80 else x.ramp.target
        let present := if x.ramp.duration ≤ e then x.ramp.target
          else if first ≤ last then first + (last - first) * e / x.ramp.duration
          else first - (first - last) * e / x.ramp.duration
        exec (.cueIssue c (j + 1)) s = .next (State.settled { s with
          sched := sched,
          mixer := { s.mixer with zones := s.mixer.zones.set z { x with
            ramp := { start := present, target := attenuation, t0 := s.now, duration := ramp } } } })) ∧
      (∀ f, q.act = .request f → s.sched.suspended = false →
        let y := s.sched.scenes.get f
        (s.sched.mode = .closed → exec (.cueIssue c (j + 1)) s =
          .next (State.told { s with sched := sched } (.dropped f (.chain k.scene) .closed))) ∧
        (s.sched.mode = .opened → y.state = .off → exec (.cueIssue c (j + 1)) s =
          .next (State.told { s with sched := sched } (.dropped f (.chain k.scene) .off))) ∧
        (s.sched.mode = .opened → y.state = .queued ∨ y.state = .running ∨ y.state = .returning ∨ y.state = .resting →
          exec (.cueIssue c (j + 1)) s = .next { s with sched := sched }) ∧
        ∀ d, s.sched.mode = .opened → y.state = .idle → y.record = some d → y.ready.overall = false →
          d.waitLimit ≠ 0 → exec (.cueIssue c (j + 1)) s = .next (State.told { s with
            sched := { sched with
              queue := [{ scene := f, source := .chain k.scene, priority := d.priority, arrival := s.now,
                          expiry := later s.now (1000 * d.waitLimit), preempting := false }],
              scenes := s.sched.scenes.set f { y with state := .queued } } }
            (.scene f .idle .queued none none y.runs)))) ∧
    (∀ m l u, q.act = .mark m → (s.cues.get t.defn.list)[next + 1]? = none → t.defn.mode = .once →
      k.tracks[l]? = some u → l ≠ j → u.phase ≠ .done →
      exec (.cueIssue c (j + 1)) s = .next (State.told { s with sched := after .done }
        (.mark k.scene c (j + 1) t.pass next m))) ∧
    ∀ q', (s.cues.get t.defn.list)[next + 1]? = some q' → reached s.now (later due q'.delta) = false →
      reached s.now (later s.now q'.delta) = false →
      let own : TrackRef := { ctx := c, track := j, serial := k.serial }
      let ended := if q.wait then s.now else due
      let resumed := after (.playing (next + 1) ended pass (later ended q'.delta))
      let held (journal : List JournalEntry) (on : Awaited) : Scheduler := moved journal
        (if q.wait then .waiting next due pass on else .playing (next + 1) due pass (later due q'.delta))
      (∀ a speed target, q.act = .axis a speed target →
        let y := s.motion.axes.get a
        let group := s.motion.groups.get (groupOfAxis a)
        let skip : Option SkipReason :=
          if y.state = .unhomed then some .unhomed
          else if y.state = .homing ∨ (y.state = .stopping ∧ y.stoppedHoming = true) then some .homing
          else if y.state = .faulted then some .faulted
          else if group.thermal = .critical then some .critical
          else if s.motion.estop = true then some .estop else none
        let used := max y.defn.min (min y.defn.max target)
        let x : AxisRec := { y with
          kind := some (.cue c), cruise := max 10 (roundHalfUp (speed * y.defn.maxSpeed) 100),
          guardEffect := if y.state = .idle then .none else y.guardEffect,
          waiting := if q.wait = true ∧ own ∉ y.waiting then y.waiting ++ [own] else y.waiting }
        (∀ reason, skip = some reason → exec (.cueIssue c (j + 1)) s =
          .next (State.told { s with sched := resumed } (.skipped a k.scene target reason))) ∧
        ∀ p, skip = none → y.positionAt s.now = some p → (y.state = .idle ∧ y.position ≠ some used ∧
            y.defn.guardZone = none) ∨ (y.state = .moving ∧ (y.point s.now).still = false) →
          let journal := if (s.sched.axisClaims.get a).holder = some c ∧ (∀ e ∈ k.journal, e.axis ≠ a) then
            k.journal ++ [{ axis := a, position := p, outcome := .pending }] else k.journal
          exec (.cueIssue c (j + 1)) s = .next (State.places { s with
            sched := held journal (.axis a),
            motion := { s.motion with axes := s.motion.axes.set a { x with
              state := .moving, target := some used,
              travel := some { t0 := s.now, start := y.point s.now,
                               plan := .toward used (x.limit group x.cruise) y.defn.accel } } } }
            (if used = target then [] else [.clamped a (some k.scene) target used])).sends) ∧
      ∀ z clip attenuation, q.act = .narrate z clip attenuation →
        let x := s.mixer.zones.get z
        let item : ListedClip :=
          { clip := clip, attenuation := attenuation, ctx := some c, track := if q.wait then some own else none }
        let zoned (y : SoundZoneState) : State := { s with
          sched := held k.journal (.clip z clip), mixer := { s.mixer with zones := s.mixer.zones.set z y } }
        let skipped := (q.occupiedOnly = true ∧ ∃ f, x.defn.floor = some f ∧ s.mixer.occupied.get f = false) ∨
          s.mixer.defined clip = none ∨ s.mixer.latch = true
        (skipped → exec (.cueIssue c (j + 1)) s = .next { s with sched := resumed }) ∧
        ∀ start length, ¬skipped → s.mixer.clips.get clip = .defined start length →
          (q.cut = true ∨ x.voice = none → s.mixer.read = none → (∀ v, x.voice = some v → v.item.track = none) →
            (∀ y ∈ x.waiting, y.track = none) → exec (.cueIssue c (j + 1)) s = .next (State.settled (zoned { x with
              voice := some { item := item, started := s.now, buffer := Buffer.start start length false },
              waiting := [],
              duck := if x.voice = none then
                { start := x.duck.value x.defn.depth x.defn.ramp s.now, up := true, t0 := s.now } else x.duck }))) ∧
          (q.cut = false → x.voice ≠ none → x.waiting.length < 4 → exec (.cueIssue c (j + 1)) s =
            .next (State.settled (zoned { x with waiting := x.waiting ++ [item] }))) ∧
          (q.cut = false → x.voice ≠ none → 4 ≤ x.waiting.length → exec (.cueIssue c (j + 1)) s =
            .next (State.told { s with sched := resumed }
              (.droppedClip z clip (some k.scene) (if q.wait then some (j + 1) else none))))

/-- The ends of a RUNNING scene that the statements above leave out. With its last record issued, its other tracks
DONE, its axes at rest and its zones silent it ends normally in that event: its claims are released, its contributions
removed, the beds of its zones ramped back to their base, its context freed, and the scene is RESTING, or IDLE with
rest time 0; its follow-on is then requested with source CHAIN, here with none, or in a CLOSED show, which drops it
(R21, R46, R47). Aborted with the RETURN form while its journal holds an axis, by STOP SCENE or by its deadline, it is
RETURNING: its tracks are stopped and its contributions removed, it keeps its context for at most 120 s and of its axes
that one, which sets out for its recorded position at its return speed (R48, R49, R120). A request of higher priority
for that axis preempts it in the same way, with cause PREEMPTED: the axis is promised to the entry, which waits
PREEMPTING (R43, R44, R57). -/
def Obligations.ScenesEndReturnAndPreempt : Prop :=
  ∀ (s : State) (c : CtxId) (k : Context) (r : SceneRecord), s.quiet = true → s.sched.queue = [] →
    s.sched.contexts.get c = some k →
    let i := k.scene
    let x := s.sched.scenes.get i
    x.record = some r → x.state = .running →
    let dimmed : Lighting := { s.light with
      channels := .ofFn fun ch =>
        let y := s.light.channels.get ch
        if ch ∈ r.lamps then y.removeFor (s.light.groups.get (groupOfChannel ch)).phase s.now c r.release else y }
    (∀ (j : Nat) (t : Track) (next : Nat) (anchor pass due : Stamp) (q : Cue) (m : Nat),
      k.tracks[j]? = some t → t.phase = .playing next anchor pass due → reached s.now due = true →
      (s.cues.get t.defn.list)[next]? = some q → q.act = .mark m → (s.cues.get t.defn.list)[next + 1]? = none →
      t.defn.mode = .once → (∀ l u, k.tracks[l]? = some u → l ≠ j → u.phase = .done) →
      (∀ a ∈ r.axes, (s.motion.axes.get a).state = .idle ∨ (s.motion.axes.get a).state = .faulted ∨
        (s.motion.axes.get a).state = .unhomed) →
      (∀ z ∈ r.zones, (s.mixer.zones.get z).voice = none ∧ (s.mixer.zones.get z).waiting = []) →
      r.followOn = none ∨ (s.sched.mode = .closed ∧ s.sched.suspended = false) →
      exec (.cueIssue c (j + 1)) s = .next (State.settled (State.places { s with
        sched := { s.sched with
          axisClaims := .ofFn fun a => let y := s.sched.axisClaims.get a
            if a ∈ r.axes ∧ y.holder = some c then { y with holder := none } else y,
          zoneClaims := .ofFn fun z => let y := s.sched.zoneClaims.get z
            if z ∈ r.zones ∧ y.holder = some c then { y with holder := none } else y,
          contexts := s.sched.contexts.set c none,
          scenes := s.sched.scenes.set i (x.ended s.now (some .normal) r.rest) },
        light := dimmed,
        mixer := { s.mixer with
          zones := r.zones.foldl (fun t z => t.modify z fun y => { y with
            ramp := { start := y.ramp.value s.now, target := y.defn.base, t0 := s.now, duration := y.defn.ramp } })
            s.mixer.zones } }
        ([.mark i c (j + 1) t.pass next m,
          .scene i .running (if r.rest = 0 then .idle else .resting) none (some .normal) x.runs] ++
          r.followOn.toList.map fun f => .dropped f (.chain i) .closed)))) ∧
    ∀ (a : Axis) (p : Nat) (o : JournalOutcome), x.context = some c →
      k.journal = [{ axis := a, position := p, outcome := o }] → (∀ z, (s.sched.zoneClaims.get z).holder ≠ some c) →
      let y := s.motion.axes.get a
      let group := s.motion.groups.get (groupOfAxis a)
      let z : AxisRec := { y with
        kind := some (.ret c), cruise := max 10 (roundHalfUp (y.defn.returnPercent * y.defn.maxSpeed) 100),
        guardEffect := if y.state = .idle then .none else y.guardEffect, waiting := [] }
      s.sched.axisClaims.get a = ⟨some c, none⟩ → group.thermal ≠ .critical → s.motion.estop = false →
      (y.state = .idle ∧ y.position ≠ some p ∧ y.defn.guardZone = none) ∨
        (y.state = .moving ∧ (y.point s.now).still = false) →
      let aborted (cause : EndCause) : State := { s with
        sched := { s.sched with
          axisClaims := .ofFn fun b => let y := s.sched.axisClaims.get b
            if b ≠ a ∧ y.holder = some c then { y with holder := none } else y,
          contexts := s.sched.contexts.set c (some { k with
            deadline := none, returnLimit := some (later s.now 120000),
            journal := [{ axis := a, position := p, outcome := .returning }],
            tracks := k.tracks.map fun t => if t.phase = .done then t else { t with phase := .idle } }),
          scenes := s.sched.scenes.set i { x with state := .returning, endCause := some cause } },
        light := dimmed,
        motion := { s.motion with axes := s.motion.axes.set a { z with
          state := .moving, target := some p,
          travel := some { t0 := s.now, start := y.point s.now,
                           plan := .toward p (z.limit group z.cruise) y.defn.accel } } } }
      let notice (cause : EndCause) : NoticeBody := .scene i .running .returning (some c) (some cause) x.runs
      (∀ h : FrameHead, s.AdmitsOwned h → exec (.stopScene h (unitNo i) 0) s =
        .next ((State.places { aborted .stopped with owner := (s.heard h.port).owner } [notice .stopped]).reply h.port
          0xA4#8 .done .empty).sends) ∧
      (∀ due, k.deadline = some due → reached s.now due = true → exec (.deadlineExpiry c) s =
        .next ((aborted .timeout).told (notice .timeout))) ∧
      ∀ (h : FrameHead) (f : SceneId) (d : SceneRecord), s.Admits h → s.owner.owner = h.port → s.owner.take = none →
        s.sched.mode = .opened → s.sched.suspended = false → f ≠ i →
        let v := s.sched.scenes.get f
        let u := aborted .preempted
        v.record = some d → v.state = .idle → v.ready.overall = true → d.axes = [a] → d.zones = [] →
        r.priority < d.priority → exec (.startScene h (unitNo f)) s = .next ((State.places { u with
          owner := (s.heard h.port).owner,
          sched := { u.sched with
            queue := [{ scene := f, source := if h.port = .showLink then .showLink else .serviceLink,
                        priority := d.priority, arrival := s.now, expiry := later s.now (1000 * d.waitLimit),
                        preempting := true }],
            axisClaims := u.sched.axisClaims.set a ⟨some c, some f⟩,
            scenes := u.sched.scenes.set f { v with state := .queued } } }
          [.scene f .idle .queued none none v.runs, notice .preempted]).reply h.port 0xA3#8 .done
          (.start (.queued true 1))).sends

/-! Lighting. -/

/-- DEFINE CHANNEL, SET MASTER, SET BASE and TEST LEVEL: each sets what it names, clamped, and nothing else. A defined
channel's base record is idle at its base level, SET BASE fades from the present base value, and SET MASTER and SET
BASE are refused in STANDSTILL (R79, R81, R82, R96). -/
def Obligations.LevelsAreDefinedAndSet : Prop :=
  ∀ (s : State) (h : FrameHead),
    (∀ (c : Channel) (base curve floor safe : Nat), s.AdmitsDefine h → curve ≤ 1 →
      exec (.defineChannel h ⟨unitNo c, base, curve, floor, safe⟩) s = .next (State.answered { s.heard h.port with
        light := { s.light with channels := s.light.channels.set c { s.light.channels.get c with
          defn := { base := min 1000 base, curve := if curve = 0 then .linear else .square,
                    floor := min 400 floor, safe := min 1000 safe },
          base := { start := min 1000 base, target := min 1000 base, t0 := 0, duration := 0 } } } } h.port 0x95#8
        (if 1000 < base ∨ 400 < floor ∨ 1000 < safe then .adjusted else .done) .empty)) ∧
    (∀ (g : LampGroup) (level : Nat), s.AdmitsOwned h → s.sched.mode ≠ .standstill → s.store.job = none →
      exec (.setMaster h (unitNo g) level) s = .next (State.answered { s.heard h.port with
        light := { s.light with groups := s.light.groups.set g { s.light.groups.get g with
          defn := { (s.light.groups.get g).defn with master := min 1000 level } } } } h.port 0xAB#8
        (if 1000 < level then .adjusted else .done) .empty)) ∧
    (∀ (first last : Channel) (level fade : Nat), s.AdmitsOwned h → s.sched.mode ≠ .standstill → s.store.job = none →
      first ≤ last → exec (.setBase h (unitNo first) (unitNo last) level fade) s =
        .next (State.answered { s.heard h.port with
          light := { s.light with channels := .ofFn fun c =>
            let x := s.light.channels.get c
            if first ≤ c ∧ c ≤ last then { x with
              base := { start := x.base.value s.now, target := min 1000 level, t0 := s.now, duration := min 60000 fade },
              defn := { x.defn with base := min 1000 level } } else x } } h.port 0xAC#8
          (if 1000 < level ∨ 60000 < fade then .adjusted else .done) .empty)) ∧
    (∀ (first last : Channel) (level : Option Nat), s.AdmitsService h → first ≤ last →
      exec (.testLevel h (unitNo first) (unitNo last) level) s = .next (State.answered { s.heard h.port with
        light := { s.light with channels := .ofFn fun c =>
          if first ≤ c ∧ c ≤ last then { s.light.channels.get c with test := level.map (min 1000) }
          else s.light.channels.get c } } h.port 0xB0#8
        (if level.any (1000 < ·) then .adjusted else .done) .empty)) ∧
    (s.AdmitsOwned h → s.sched.mode = .standstill → ∀ group level first last fade,
      exec (.setMaster h group level) s = .next ((s.heard h.port).answered h.port 0xAB#8 .wrongMode .empty) ∧
      exec (.setBase h first last level fade) s =
        .next ((s.heard h.port).answered h.port 0xAC#8 .wrongMode .empty)) ∧
    (s.Admits h → s.sched.mode ≠ .service → ∀ first last level, exec (.testLevel h first last level) s =
      .next ((s.heard h.port).answered h.port 0xB0#8 .wrongMode .empty))

/-- The Lighting Engine's timers and deliveries (R77, R93 to R95): a frame every 10 ms by the level pipeline; the
emergency stop takes every group to its safe levels with a frame; a TIMED group's hold takes it to the base levels;
Resume blends each channel from its present level and master. Stops and Resume are deliveries that wait (assumption
log 12). The level of a channel before scaling, with its source, case by case: the safe level, the base blend, the base,
the recovery toward the normal level, and of the normal level the test level, the handover, the top contribution and the
base (R88). The P of 100 in the snapshot of a CRITICAL group is the model's choice (assumption log 37). -/
def Obligations.LightingFollowsFramesAndStops : Prop :=
  ∀ s : State, s.quiet = true →
    let l := s.light
    let framed (l : Lighting) : Lighting := { l with
      channels := l.channels.map (·.settle s.now),
      snapshot := { time := s.now,
                    channels := .ofFn fun c => channelFrame (l.channels.get c) (l.groups.get (groupOfChannel c)) s.now,
                    groups := .ofFn fun g => groupFrame (l.groups.get g) } }
    (∀ due, l.nextFrame = some due → reached s.now due = true → exec .lightingFrame s =
      .next { s with light := { framed l with nextFrame := some (later due 10) } }) ∧
    (∀ (g : LampGroup) (due : Stamp), (l.groups.get g).phase = .safe → (l.groups.get g).holdExpiry = some due →
      reached s.now due = true → exec (.timedHoldExpiry g) s = .next { s with light := { l with
        groups := l.groups.set g { l.groups.get g with phase := .base, holdExpiry := none },
        channels := .ofFn fun c => let x := l.channels.get c
          if groupOfChannel c = g then { x with
            levelBlend := some { start := x.defn.safe, t0 := s.now, toBase := true },
            masterFade := some { start := 1000, t0 := s.now } } else x } }) ∧
    (∀ rest, s.delivery.stopLighting = .on :: rest → exec .estopOnLighting s = .next { s with
      delivery := { s.delivery with stopLighting := rest },
      light := framed { l with
        groups := .ofFn fun g => let x := l.groups.get g
          { x with phase := .safe, holdExpiry := if x.defn.response = .timed then some (later s.now (1000 * x.defn.hold))
                                                 else none },
        channels := .ofFn fun c => { l.channels.get c with handover := none, levelBlend := none,
                                                           masterFade := none } } }) ∧
    (∀ rest, s.delivery.stopLighting = .resume :: rest → exec .resumeLighting s = .next { s with
      delivery := { s.delivery with stopLighting := rest },
      light := { l with
        groups := .ofFn fun g => { l.groups.get g with phase := .clear, holdExpiry := none },
        channels := .ofFn fun c =>
          let x := l.channels.get c
          let g := l.groups.get (groupOfChannel c)
          if g.phase = .clear then x else { x with
            levelBlend := some { start := (x.level g.phase s.now).1, t0 := s.now, toBase := false },
            masterFade := some { start := x.master g s.now, t0 := s.now } } } }) ∧
    (∀ (g : LampGroupState) (x : ChannelState), g.phase = .safe →
      (channelFrame x g s.now).level = x.defn.safe ∧ x.master g s.now = 1000) ∧
    (∀ (g : LampGroupState) (x : ChannelState), g.thermal = .critical ∨ g.lineActive = true →
      (channelFrame x g s.now).output = 0) ∧
    ∀ (x : ChannelState) (now : Stamp),
      let value (f : Fade) : Nat := fadeValue f.start f.target (elapsed now f.t0) f.duration
      let running (b : LevelBlend) (toBase : Bool) : Prop :=
        x.levelBlend = some b ∧ b.toBase = toBase ∧ elapsed now b.t0 < 2000
      let handing (h : Handover) : Prop := x.handover = some h ∧ elapsed now h.t0 < h.duration
      let source := match x.stack with
        | [] => value x.base
        | top :: _ => value top.fade
      x.level .safe now = (x.defn.safe, .safe) ∧
      (∀ b, running b true →
        x.level .base now = (fadeValue b.start (value x.base) (elapsed now b.t0) 2000, .baseBlend)) ∧
      ((∀ b, ¬running b true) → x.level .base now = (value x.base, .base)) ∧
      (∀ b, running b false →
        x.level .clear now = (fadeValue b.start (x.normal now).1 (elapsed now b.t0) 2000, .recovery)) ∧
      ((∀ b, ¬running b false) → x.level .clear now = x.normal now) ∧
      (∀ v, x.test = some v → x.normal now = (v, .test)) ∧
      (∀ h, x.test = none → handing h →
        x.normal now = (fadeValue h.start source (elapsed now h.t0) h.duration, .handover)) ∧
      (x.test = none → (∀ h, ¬handing h) → x.normal now = (source, match x.stack with
        | [] => .base
        | top :: _ => .contribution top.ctx))

/-! Temperature. -/

/-- DEFINE LAMP GROUP, DEFINE AXIS GROUP and DEFINE SENSOR set the definition or the binding alone where it changes
nothing that the group takes from its sensor; a lamp group bound anew to a sensor that is not CRITICAL takes the
sensor's state and derate at once, and a sensor made unfitted is NORMAL with its reading absent (R80, R139, R144). The
deliveries of a define are made in its event, after those under way (assumption log 13). -/
def Obligations.BindingsTakeEffectAtOnce : Prop :=
  ∀ (s : State) (h : FrameHead), s.AdmitsDefine h → s.sched.queue = [] → s.noThermals = s →
    (∀ (g : LampGroup) (master response hold : Nat) (sensor : Option Sensor), response ≤ 1 →
      let x := s.light.groups.get g
      let d : LampGroupDef := { master := min 1000 master, response := if response = 0 then .holdSafe else .timed,
                                hold := max 1 (min 600 hold), sensor := sensor }
      let old := boundThermal s.supervisor.sensors x.defn.sensor
      let new := boundThermal s.supervisor.sensors sensor
      let code : ReplyCode := if 1000 < master ∨ hold < 1 ∨ 600 < hold then .adjusted else .done
      (old = new → exec (.defineLampGroup h ⟨unitNo g, master, response, hold, optUnitNo sensor⟩) s =
        .next (State.answered { s.heard h.port with light := { s.light with
          groups := s.light.groups.set g { x with defn := d } } } h.port 0x96#8 code .empty)) ∧
      (old ≠ new → new.1 ≠ .critical →
        exec (.defineLampGroup h ⟨unitNo g, master, response, hold, optUnitNo sensor⟩) s =
          .next (State.answered { s.heard h.port with
            light := { s.light with
              groups := s.light.groups.set g { x with defn := d, thermal := new.1, derate := new.2 } },
            sched := Scheduler.reviewed { s.sched with seen := { s.sched.seen with
              lampCritical := s.sched.seen.lampCritical.set g false } } s.motion.axes (usesLamps · g) } h.port 0x96#8
            code .empty))) ∧
    (∀ (g : AxisGroup) (sensor : Option Sensor),
      boundThermal s.supervisor.sensors (s.supervisor.axisBindings.get g) = boundThermal s.supervisor.sensors sensor →
      exec (.defineAxisGroup h (unitNo g) (optUnitNo sensor)) s = .next (State.answered { s.heard h.port with
        supervisor := { s.supervisor with axisBindings := s.supervisor.axisBindings.set g sensor } } h.port 0x9A#8 .done
        .empty)) ∧
    ∀ (n : Sensor) (hot critical derate : Int),
      let x := s.supervisor.sensors.get n
      let d (fitted : Bool) : SensorDef := { fitted := fitted, hot := max 80 (min 240 hot),
                                             critical := min 260 critical, derate := (max 50 (min 100 derate)).toNat }
      let code : ReplyCode :=
        if hot < 80 ∨ 240 < hot ∨ 260 < critical ∨ derate < 50 ∨ 100 < derate then .adjusted else .done
      ((d true).critical ≤ (d true).hot → ∀ fitted, exec (.defineSensor h ⟨unitNo n, fitted, hot, critical, derate⟩) s =
        .next ((s.heard h.port).answered h.port 0x99#8 .badBody .empty)) ∧
      ((d true).hot < (d true).critical → (x.thermal ≠ .hot ∨ x.defn.derate = (d true).derate) →
        exec (.defineSensor h ⟨unitNo n, 1, hot, critical, derate⟩) s = .next (State.answered { s.heard h.port with
          supervisor := { s.supervisor with sensors := s.supervisor.sensors.set n { x with defn := d true } } } h.port
          0x99#8 code .empty)) ∧
      ((d true).hot < (d true).critical → x.thermal = .normal →
        exec (.defineSensor h ⟨unitNo n, 0, hot, critical, derate⟩) s = .next (State.answered { s.heard h.port with
          supervisor := { s.supervisor with
            sensors := s.supervisor.sensors.set n { x with defn := d false, reading := .absent, thermal := .normal },
            toRead := s.supervisor.toRead.filter (· ≠ n) } } h.port 0x99#8 code .empty))

/-- A sensor's change reaches the groups bound to it and no other: a lamp group takes the state and the derate, and one
that becomes CRITICAL is dark in a frame made at once, which the model makes for a group already CRITICAL too
(assumption log 43); a MOVING axis of a group that enters CRITICAL decelerates to rest, and of one that does not goes
on to its target under the speed limit it then has (R89, R92, R107, R116, R117). Deliveries wait for each block
(assumption log 12). That an axis set STOPPING by CRITICAL has no move kind is the model's choice (assumption log 19),
and so is the P of 100 in the snapshot of a CRITICAL group (assumption log 37). -/
def Obligations.ThermalChangesReachBoundGroups : Prop :=
  ∀ (s : State) (n : Sensor) (change : Thermal) (derate : Nat) (before after : List ThermalChange), s.quiet = true →
    s.sched.queue = [] → (∀ y ∈ before, y.sensor ≠ n) →
    (s.delivery.thermalLighting = before ++ ⟨n, change, derate⟩ :: after →
      let groups : Table 6 LampGroupState := .ofFn fun g => let x := s.light.groups.get g
        if x.defn.sensor = some n then { x with thermal := change, derate := derate } else x
      let t (light : Lighting) : State :=
        { s with delivery := { s.delivery with thermalLighting := before ++ after }, light := light }
      (change ≠ .critical → exec (.thermalChangeLighting n) s = .next (t { s.light with groups := groups })) ∧
      let framed : Lighting := { s.light with
        groups := groups, channels := s.light.channels.map (·.settle s.now),
        snapshot := {
          time := s.now, groups := .ofFn fun g => groupFrame (groups.get g),
          channels := .ofFn fun c => channelFrame (s.light.channels.get c) (groups.get (groupOfChannel c)) s.now } }
      (change = .critical →
        ((∃ g, (s.light.groups.get g).defn.sensor = some n) → exec (.thermalChangeLighting n) s = .next (t framed)) ∧
        ((∀ g, (s.light.groups.get g).defn.sensor ≠ some n) → exec (.thermalChangeLighting n) s = .next (t s.light)) ∧
        ∀ c, (s.light.groups.get (groupOfChannel c)).defn.sensor = some n →
          (framed.snapshot.channels.get c).output = 0)) ∧
    (s.delivery.thermalMotion = before ++ ⟨n, change, derate⟩ :: after →
      let bound (g : AxisGroup) : Prop := s.supervisor.axisBindings.get g = some n
      let group (g : AxisGroup) : AxisGroupState := { s.motion.groups.get g with thermal := change, derate := derate }
      (∀ a, bound (groupOfAxis a) → (s.motion.axes.get a).state ≠ .homing ∧ (s.motion.axes.get a).state ≠ .held ∧
        ((s.motion.axes.get a).state = .moving → ∃ m target, (s.motion.axes.get a).travel = some m ∧
          (s.motion.axes.get a).target = some target ∧ ∀ c, (s.motion.axes.get a).kind ≠ some (.ret c))) →
      ∃ groups axes, exec (.thermalChangeMotion n) s = .next { s with
          delivery := { s.delivery with thermalMotion := before ++ after },
          motion := { s.motion with groups := groups, axes := axes } } ∧
        (∀ g, bound g → groups.get g = group g) ∧ (∀ g, ¬bound g → groups.get g = s.motion.groups.get g) ∧
        ∀ a, let x := s.motion.axes.get a
          (¬bound (groupOfAxis a) ∨ x.state ≠ .moving → axes.get a = x) ∧
          (bound (groupOfAxis a) → x.state = .moving → ∀ target, x.target = some target →
            let travel (plan : Plan) : Travel := { t0 := s.now, start := x.point s.now, plan := plan }
            let limit := x.limit (group (groupOfAxis a)) x.cruise
            (change ≠ .critical →
              axes.get a = { x with travel := some (travel (.toward target limit x.defn.accel)) }) ∧
            (change = .critical → (s.motion.groups.get (groupOfAxis a)).thermal ≠ .critical →
              axes.get a = { x with
                state := .stopping, target := none, kind := none, paused := false, stoppedHoming := false,
                travel := some (travel (.stop x.defn.accel)) })))

/-! Motion. -/

/-- DEFINE AXIS takes the body's definition, each setting clamped to its range in the rule's order with the reply then
ADJUSTED, and is refused where an identifier is out of range or the min is not less than the max (R100); an axis that
is not FAULTED is UNHOMED, its guard effect is that of its new guard zone, and a new switch sense re-seeds its
switches. HOME AXES finds a switch that is already active, or sets out under the homing speed; a held axis is refused
(R100, R101, R104 to R106). That the guard effect is worked out anew is the model's reading (assumption log 20), and so
is that a home switch found active comes before an active limit switch (assumption log 19). -/
def Obligations.AxesAreDefinedAndHomed : Prop :=
  ∀ (s : State) (h : FrameHead) (a : Axis), s.sched.queue = [] →
    let x := s.motion.axes.get a
    let moved (y : AxisRec) : State :=
      let axes := s.motion.axes.set a y
      { s.heard h.port with
        motion := { s.motion with axes := axes }, sched := s.sched.reviewed axes (·.axes.contains a) }
    let guard (d : AxisDef) : GuardEffect :=
      if d.guardZone.any (s.motion.occupied.get ·) then (if d.guardAction = .stop then .holding else .creeping) else .none
    (∀ b : AxisBody, s.AdmitsDefine h →
      b.axis < 1 ∨ 12 < b.axis ∨ 1 < b.enabled ∨ 8 < b.guardZone ∨ 1 < b.guardAction ∨ 1 < b.sense ∨
        min 60000 b.max ≤ min 60000 b.min →
      exec (.defineAxis h b) s = .next ((s.heard h.port).answered h.port 0x97#8 .badBody .empty)) ∧
    (∀ (b : AxisBody) (guardZone : Option FloorZone), s.AdmitsDefine h → unitNo a = b.axis → b.enabled ≤ 1 →
      optUnitNo guardZone = b.guardZone → b.guardAction ≤ 1 → b.sense ≤ 1 → min 60000 b.min < min 60000 b.max →
      let maxSpeed := max 10 (min 4000 b.maxSpeed)
      let accel := max 100 (min 20000 b.accel)
      let d : AxisDef :=
        { enabled := decide (b.enabled = 1), min := min 60000 b.min, max := min 60000 b.max,
          home := max (min 60000 b.min) (min (min 60000 b.max) b.home), maxSpeed := maxSpeed, accel := accel,
          emergency := max accel (max 100 (min 40000 b.emergency)), homingSpeed := max 10 (min 1000 b.homingSpeed),
          returnPercent := max 1 (min 100 b.returnPercent), guardZone := guardZone,
          guardAction := if b.guardAction = 0 then .stop else .creep,
          creep := min maxSpeed (max 10 (min 500 b.creep)), sense := if b.sense = 0 then .activeHigh else .activeLow }
      let adjusted := decide (d.min ≠ b.min ∨ d.max ≠ b.max ∨ d.home ≠ b.home ∨ d.maxSpeed ≠ b.maxSpeed ∨
        d.accel ≠ b.accel ∨ d.emergency ≠ b.emergency ∨ d.homingSpeed ≠ b.homingSpeed ∨
        d.returnPercent ≠ b.returnPercent ∨ d.creep ≠ b.creep)
      (d.min < d.max ∧ d.min ≤ d.home ∧ d.home ≤ d.max ∧ d.accel ≤ d.emergency ∧ d.creep ≤ d.maxSpeed) ∧
      ((s.sched.axisClaims.get a).holder = none → (x.state = .unhomed ∨ x.state = .idle) →
        (d.enabled = false ∨ (s.motion.groups.get (groupOfAxis a)).lineActive = false) →
        let seen (f : Filter) : Filter := if d.sense = x.defn.sense then f
          else { f with active := sense d.sense f.line, timer := none, seeded := true }
        exec (.defineAxis h b) s = .next ((moved { x with
          defn := d, state := .unhomed, position := none, target := none, guardEffect := guard d,
          home := seen x.home, low := seen x.low, high := seen x.high }).answered h.port 0x97#8 (doneOr adjusted)
          .empty)) ∧
      ((s.sched.axisClaims.get a).holder ≠ none ∨ x.state = .homing ∨ x.state = .moving ∨ x.state = .held ∨
          x.state = .stopping →
        exec (.defineAxis h b) s = .next ((s.heard h.port).answered h.port 0x97#8 .inUse .empty))) ∧
    (s.AdmitsOwned h → s.sched.mode ≠ .standstill → s.motion.estop = false →
      let outcome (o : HomeOutcome) : ReplyBody := .homing [(a, o)]
      ((s.sched.axisClaims.get a).holder = none → x.defn.enabled = true → (x.state = .unhomed ∨ x.state = .idle) →
        (s.motion.groups.get (groupOfAxis a)).thermal ≠ .critical →
        let y : AxisRec := { x with
          position := none, travel := none, target := none, kind := none, steps := 0, paused := false,
          stoppedHoming := false, guardEffect := guard x.defn }
        (x.home.active = true → exec (.homeAxes h (2 ^ a.val)) s =
          .next (((moved { y with state := .idle, position := some x.defn.home }).places [.homed a x.defn.home]).reply
            h.port 0xAD#8 .done (outcome .started)).sends) ∧
        (x.home.active = false → x.low.active = false → x.high.active = false → guard x.defn ≠ .holding →
          exec (.homeAxes h (2 ^ a.val)) s = .next ((moved { y with
            state := .homing,
            travel := some { t0 := s.now, start := .rest 0 true,
                             plan := .run ({ y with state := .homing }.limit (s.motion.groups.get (groupOfAxis a))
                                       x.defn.homingSpeed) x.defn.accel } }).answered h.port 0xAD#8 .done
            (outcome .started)))) ∧
      ((s.sched.axisClaims.get a).holder ≠ none → exec (.homeAxes h (2 ^ a.val)) s =
        .next ((s.heard h.port).answered h.port 0xAD#8 .done (outcome .inUse))))

/-- A switch of an axis: a change of its line starts or cancels the 2 ms filter; an accepted change to active finds
home for a homing run, and faults a moving axis at a limit; a homing run of 62,000 steps faults as well (R101, R106,
R113). Of an axis that no scene holds. -/
def Obligations.SwitchesFindHomeAndFault : Prop :=
  ∀ (s : State) (a : Axis) (sw : Switch), s.quiet = true → s.sched.queue = [] →
    let x := s.motion.axes.get a
    let f := x.switch sw
    let changed (y : AxisRec) : State := { s with motion := { s.motion with axes := s.motion.axes.set a y } }
    let reviewed (y : AxisRec) : State :=
      { changed y with sched := s.sched.reviewed (s.motion.axes.set a y) (·.axes.contains a) }
    let active := sense x.defn.sense f.line
    let accepted : AxisRec := x.modSwitch sw fun f => { f with active := active, timer := none, seeded := true }
    let fault (y : AxisRec) : AxisRec := { y with
      state := .faulted, position := none, travel := none, target := none, kind := none, guardEffect := .none,
      steps := 0, paused := false, stoppedHoming := false, travelCause := true, travelLatch := true }
    (∀ high, f.line ≠ high → f.seeded = true → exec (.switchLineChange a sw high) s = .next (changed (x.modSwitch sw
      fun f => { f with line := high, timer := if sense x.defn.sense high = f.active then none
                                               else some (later s.now 2) }))) ∧
    (∀ high, f.line ≠ high → f.seeded = false → exec (.switchLineChange a sw high) s = .next (changed (x.modSwitch sw
      fun f => { f with line := high, timer := f.timer.map fun _ => later s.now 2 }))) ∧
    (∀ due, f.timer = some due → reached s.now due = true →
      (active = false ∨ x.state = .unhomed ∨ x.state = .idle →
        exec (.switchFilterExpiry a sw) s = .next (changed accepted)) ∧
      (active = true → sw = .home → x.state = .homing → exec (.switchFilterExpiry a sw) s =
        .next ((reviewed { accepted with
          state := .idle, position := some x.defn.home, travel := none, steps := 0, paused := false }).told
          (.homed a x.defn.home))) ∧
      (active = true → sw ≠ .home → (x.state = .homing ∨ x.state = .moving ∨ x.state = .stopping) → x.waiting = [] →
        (s.sched.axisClaims.get a).holder = none → (∀ c, x.kind ≠ some (.ret c)) →
        exec (.switchFilterExpiry a sw) s = .next ((reviewed (fault accepted)).told (.faulted a none .limit)))) ∧
    (x.state = .homing → 62000 ≤ x.stepsAt s.now → (s.sched.axisClaims.get a).holder = none →
      (∀ c, x.kind ≠ some (.ret c)) →
      exec (.homeNotFound a) s = .next ((reviewed (fault x)).told (.faulted a none .homeNotFound)))

/-- Moves of an axis that no scene holds: a jog within the soft limits sets out at the cruise speed of its percent,
and one that the axis cannot take is skipped; a move that reaches its target leaves the axis IDLE there; a STOPPING
axis comes to rest IDLE, or UNHOMED where it was homing; a HELD one keeps its target (R107 to R111, R117 to R121). A
skipped jog is answered DONE (assumption log 23). The speed limit is the move's speed, lowered to the creep speed while
CREEPING, and then while HOT times the derate percent, to the nearest whole step with a half up, and at least 10 (R107).
A motion is over after a time, rounded up to a whole millisecond: a deceleration after v/a, at its stopping point, the
last whole step it reaches; a move from rest after d/v + v/a, or 2√(d/a) where it does not come to its limit; a move to
a target beyond the stopping point after its change of speed, its hold and its deceleration; one to a target short of it
after the deceleration and a move from rest there (R109, R110). This is said of motions that set out from a rational
place and speed; that the part reckons exactly is the model's reading (assumption log 8). -/
def Obligations.MovesSetOutAndComeToRest : Prop :=
  (∀ (y : AxisRec) (g : AxisGroupState) (base : Nat),
    let b := if y.guardEffect = .creeping then min base y.defn.creep else base
    (g.thermal ≠ .hot → y.limit g base = b) ∧
    ∀ r, g.thermal = .hot → 100 * r ≤ b * g.derate + 50 → b * g.derate + 50 < 100 * (r + 1) →
      y.limit g base = max 10 r) ∧
  (∀ (m : Travel) (x : AxisRec) (now : Stamp), x.travel = some m →
    (x.over now = true ↔ ∃ ms, m.restMs = some ms ∧ reached now (later m.t0 ms) = true) ∧
    ∀ p, x.position = some p → x.over now = true →
      (∀ decel, m.plan = .stop decel → x.positionAt now = some (m.start.stoppingPoint decel).toNat) ∧
      ∀ target limit accel, m.plan = .toward target limit accel → x.positionAt now = some target) ∧
  (∀ (place speed : Rat) (up : Bool) (t0 : Stamp) (target limit a : Nat), 0 ≤ speed → 0 < a → 0 < limit →
    let k : Kin := { place := .rat place, speed := .rat speed, upward := up, roots := [] }
    let m (p : Plan) : Travel := { t0 := t0, start := k, plan := p }
    let stop := k.stoppingPoint a
    let way := speed * speed / (2 * a)
    let beyond := if up then stop < target else (target : Int) < stop
    let least (p : Plan) (enough : Rat → Prop) : Prop :=
      ∃ ms : Nat, (m p).restMs = some ms ∧ enough (ms / 1000) ∧ ∀ n : Nat, enough (n / 1000) → ms ≤ n
    let fromRest (d t : Rat) : Prop :=
      if (limit * limit : Rat) ≤ d * a then d / limit + limit / a ≤ t else 0 ≤ t ∧ 4 * d ≤ a * t * t
    (up = true → (stop : Rat) ≤ place + way ∧ place + way < stop + 1) ∧
    (up = false → (stop : Rat) - 1 < place - way ∧ place - way ≤ stop) ∧
    least (.stop a) (fun t => speed / a ≤ t) ∧
    (speed = 0 → least (.toward target limit a) (fromRest |target - place|)) ∧
    (0 < speed → stop = target → least (.toward target limit a) fun t => speed / a ≤ t) ∧
    (0 < speed → stop ≠ target → ¬beyond → least (.toward target limit a) fun t =>
      fromRest |(target : Rat) - stop| (t - speed / a)) ∧
    (0 < speed → beyond → least (.toward target limit a) fun t =>
      let d := |(target : Rat) - place|
      let v : Rat := limit
      if v ≤ speed ∨ v * v ≤ d * a + speed * speed / 2 then
        |v - speed| / a + (d - |v * v - speed * speed| / (2 * a) - v * v / (2 * a)) / v + v / a ≤ t
      else 0 ≤ a * t + speed ∧ 4 * (d * a + speed * speed / 2) ≤ (a * t + speed) * (a * t + speed))) ∧
  ∀ (s : State) (a : Axis), s.sched.queue = [] →
    let x := s.motion.axes.get a
    let changed (y : AxisRec) : State := { s with motion := { s.motion with axes := s.motion.axes.set a y } }
    (∀ (h : FrameHead) (speed target : Nat), s.AdmitsService h →
      let percent := max 1 (min 100 speed)
      let asked := min 60000 target
      let used := max x.defn.min (min x.defn.max asked)
      let cruise := max 10 (roundHalfUp (percent * x.defn.maxSpeed) 100)
      let code : ReplyCode := if percent ≠ speed ∨ asked ≠ target ∨ used ≠ asked then .adjusted else .done
      (x.state = .idle → (s.motion.groups.get (groupOfAxis a)).thermal ≠ .critical → s.motion.estop = false →
        x.defn.guardZone = none → x.position ≠ some used →
        let y : AxisRec := { x with kind := some .jog, cruise := cruise, guardEffect := .none }
        exec (.jogAxis h (unitNo a) speed target) s = .next (((State.places { s.heard h.port with
          motion := { s.motion with axes := s.motion.axes.set a { y with
            state := .moving, target := some used,
            travel := some { t0 := s.now, start := y.point s.now,
                             plan := .toward used (y.limit (s.motion.groups.get (groupOfAxis a)) cruise)
                                       x.defn.accel } } } }
          (if used = asked then [] else [.clamped a none asked used])).reply h.port 0xB1#8 code (.jog .started)).sends)) ∧
      (x.state = .unhomed → exec (.jogAxis h (unitNo a) speed target) s =
        .next ((s.heard h.port).answered h.port 0xB1#8 .done (.jog (.skipped .unhomed))))) ∧
    (s.quiet = true → (s.sched.axisClaims.get a).holder = none → x.waiting = [] → x.over s.now = true →
      (∀ target, x.target = some target → (x.state = .moving ∨ (x.state = .held ∧ x.positionAt s.now = some target)) →
        (∀ c, x.kind ≠ some (.ret c)) → exec (.moveArrival a) s = .next (changed { x with
          state := .idle, position := some target, travel := none, target := none, kind := none })) ∧
      (x.state = .stopping → x.stoppedHoming = false → exec (.stoppingAtRest a) s = .next (changed { x with
        state := .idle, position := x.positionAt s.now, travel := none, target := none, kind := none })) ∧
      (x.state = .stopping → x.stoppedHoming = true → exec (.stoppingAtRest a) s = .next (changed { x with
        state := .unhomed, position := none, travel := none, target := none, kind := none, steps := 0,
        stoppedHoming := false }))) ∧
    (s.quiet = true → x.over s.now = true →
      (x.state = .held → x.positionAt s.now ≠ x.target → exec (.heldAtRest a) s =
        .next (changed { x with position := x.positionAt s.now, travel := none })) ∧
      (x.state = .homing → x.paused = true → exec (.heldAtRest a) s =
        .next (changed { x with steps := x.stepsAt s.now, travel := none })))

/-- A guard zone that becomes occupied holds a MOVING axis under STOP guard, decelerating to rest with its target
kept, and slows one under CREEP; one that becomes CLEAR lets a HELD axis at rest go on to its target. The emergency
stop decelerates every axis in motion at its emergency rate, and its end restarts none (R107, R111, R112, R119).
Deliveries wait for each block (assumption log 12). -/
def Obligations.GuardsAndStopsActOnAxes : Prop :=
  ∀ s : State, s.quiet = true → s.sched.queue = [] →
    let depart (x : AxisRec) (p : Plan) : Option Travel := some { t0 := s.now, start := x.point s.now, plan := p }
    let group (a : Axis) : AxisGroupState := s.motion.groups.get (groupOfAxis a)
    (∀ (z : FloorZone) (change : ZoneState) (follows : Option FloorZone) (before after : List ZoneChange),
      s.delivery.zoneMotion = before ++ ⟨z, change, follows⟩ :: after →
      (∀ y ∈ before, y.zone ≠ z ∧ follows ≠ some y.zone) →
      let t (axes : Table 12 AxisRec) : State := { s with
        delivery := { s.delivery with zoneMotion := before ++ after },
        motion := { s.motion with occupied := s.motion.occupied.set z (decide (change ≠ .clear)), axes := axes } }
      (s.motion.occupied.get z = decide (change ≠ .clear) →
        exec (.zoneChangeMotion z) s = .next (t s.motion.axes)) ∧
      (s.motion.occupied.get z = false → change ≠ .clear →
        (∀ a, (s.motion.axes.get a).state = .moving → ∃ m target, (s.motion.axes.get a).travel = some m ∧
          (s.motion.axes.get a).target = some target) →
        ∃ axes, exec (.zoneChangeMotion z) s = .next (t axes) ∧ ∀ a,
          let x := s.motion.axes.get a
          let creeping := { x with guardEffect := .creeping }
          (x.defn.guardZone ≠ some z → axes.get a = x) ∧
          (x.defn.guardZone = some z → x.defn.guardAction = .stop →
            (x.state = .moving → axes.get a =
              { x with state := .held, guardEffect := .holding, travel := depart x (.stop x.defn.accel) }) ∧
            (x.state ≠ .moving → x.state ≠ .homing → axes.get a = { x with guardEffect := .holding })) ∧
          (x.defn.guardZone = some z → x.defn.guardAction = .creep →
            (∀ target, x.state = .moving → x.target = some target → axes.get a = { creeping with
              travel := depart x (.toward target (creeping.limit (group a) x.cruise) x.defn.accel) }) ∧
            (x.state ≠ .moving → x.state ≠ .homing → axes.get a = creeping))) ∧
      (s.motion.occupied.get z = true → change = .clear →
        (∀ a, (s.motion.axes.get a).defn.guardZone = some z → (s.motion.axes.get a).state = .held →
          (s.motion.axes.get a).travel = none ∧ (s.motion.axes.get a).target ≠ none ∧
          (s.motion.axes.get a).target ≠ (s.motion.axes.get a).position ∧ (s.motion.axes.get a).position ≠ none) →
        ∃ axes, exec (.zoneChangeMotion z) s = .next (t axes) ∧ ∀ a,
          let x := s.motion.axes.get a
          let freed := { x with guardEffect := .none }
          (x.defn.guardZone ≠ some z → axes.get a = x) ∧
          (∀ target, x.defn.guardZone = some z → x.state = .held → x.target = some target → axes.get a = { freed with
            state := .moving, travel := depart x (.toward target (freed.limit (group a) x.cruise) x.defn.accel) }) ∧
          (x.defn.guardZone = some z → x.state ≠ .held → x.state ≠ .moving → x.state ≠ .homing →
            axes.get a = freed))) ∧
    (∀ rest, s.delivery.stopMotion = .on :: rest →
      (∀ a, (s.motion.axes.get a).state = .held → (s.motion.axes.get a).travel ≠ none) →
      exec .estopOnMotion s = .next { s with
        delivery := { s.delivery with stopMotion := rest },
        motion := { s.motion with
          estop := true,
          axes := .ofFn fun a =>
            let x := s.motion.axes.get a
            if x.state = .moving ∨ x.state = .held ∨ x.state = .homing ∨ x.state = .stopping then { x with
              state := .stopping, target := none, kind := none, paused := false,
              stoppedHoming := decide (x.state = .homing) || (decide (x.state = .stopping) && x.stoppedHoming),
              travel := depart x (.stop x.defn.emergency) } else x } }) ∧
    ∀ rest, s.delivery.stopMotion = .off :: rest → exec .estopOffMotion s = .next { s with
      delivery := { s.delivery with stopMotion := rest }, motion := { s.motion with estop := false } }

/-! Sound. Where a command changes the Mixer or the Show Store, its next state is as the end of every event leaves it
(`State.settled`): a flash that is free goes to who waits for it, and idle transmitters start to send. -/

/-- DEFINE SOUND ZONE, PLAY CLIP and the end of a clip: a zone takes its definition with its ramp idle at the base; its
bed plays on where it is the same, and where it is another the old one stops and the new one starts from sample 0 if
its clip is DEFINED, the clip store fault latch is clear and the zone is not muted; a clip starts as the voice from
sample 0 and turns the duck UP where the voice was silent; silencing a zone, and the end of a clip with none listed,
turn it DOWN; a listed clip starts next (R129 to R132, R137). PLAY CLIP on a PLAYING voice leaves the duck alone
(assumption log 23). -/
def Obligations.VoicesStartAndEnd : Prop :=
  ∀ (s : State) (z : SoundZone), s.sched.queue = [] → s.mixer.read = none →
    let x := s.mixer.zones.get z
    let zoned (t : State) (y : SoundZoneState) : State :=
      { t with mixer := { s.mixer with zones := s.mixer.zones.set z y } }
    let turned (up : Bool) : Duck :=
      { start := x.duck.value x.defn.depth x.defn.ramp s.now, up := up, t0 := s.now }
    let voice (item : ListedClip) (start length : Nat) : Voice :=
      { item := item, started := s.now,
        buffer := { startBlock := start, length := length, loops := false, position := 0,
                    slots := (List.range 4).map fun i =>
                      { block := if i < ceilDiv length 256 then some i else none, content := .empty } } }
    (∀ (h : FrameHead) (floor : Option FloorZone) (bed : Option ClipId) (base depth ramp : Nat), s.AdmitsDefine h →
      bed ≠ some 0 →
      let d : SoundZoneDef := { floor := floor, bed := bed, base := if base = 255 then 255 else min 80 base,
                                depth := min 80 depth, ramp := max 50 (min 2000 ramp) }
      let body : SoundZoneBody := ⟨unitNo z, optUnitNo floor, bed.elim 0 (·.val), base, depth, ramp⟩
      let code : ReplyCode :=
        if (80 < base ∧ base ≠ 255) ∨ 80 < depth ∨ ramp < 50 ∨ 2000 < ramp then .adjusted else .done
      ((s.sched.zoneClaims.get z).holder = none → x.defn.bed = bed →
        exec (.defineSoundZone h body) s = .next (State.settled ((zoned (s.heard h.port) { x with
          defn := d, ramp := { start := d.base, target := d.base, t0 := 0, duration := 0 },
          duck := { x.duck with start := min d.depth (x.duckValue s.now), t0 := s.now } }).reply h.port 0x98#8
          code .empty))) ∧
      ((s.sched.zoneClaims.get z).holder = none → x.defn.bed ≠ bed →
        exec (.defineSoundZone h body) s = .next (State.settled ((zoned (s.heard h.port) { x with
          defn := d, ramp := { start := d.base, target := d.base, t0 := 0, duration := 0 },
          duck := { x.duck with start := min d.depth (x.duckValue s.now), t0 := s.now },
          bed := if s.mixer.latch ∨ x.muted then none else (bed.bind s.mixer.defined).map fun e =>
            { startBlock := e.1, length := e.2, loops := true, position := 0,
              slots := (List.range 4).map fun i =>
                { block := some (i % ceilDiv e.2 256), content := .empty } } }).reply h.port 0x98#8 code .empty))) ∧
      ((s.sched.zoneClaims.get z).holder ≠ none →
        exec (.defineSoundZone h body) s = .next ((s.heard h.port).answered h.port 0x98#8 .inUse .empty))) ∧
    (∀ (h : FrameHead) (clip : ClipId) (attenuation start length : Nat), s.AdmitsService h → s.mixer.latch = false →
      s.mixer.clips.get clip = .defined start length → x.waiting = [] → (∀ v, x.voice = some v → v.item.track = none) →
      let item : ListedClip := { clip := clip, attenuation := min 80 attenuation, ctx := none, track := none }
      let code : ReplyCode := if 80 < attenuation then .adjusted else .done
      (attenuation ≠ 255 → exec (.playClip h (unitNo z) clip attenuation) s =
        .next (State.settled ((zoned (s.heard h.port) { x with
          voice := some (voice item start length),
          duck := if x.voice = none then turned true else x.duck }).reply h.port 0xB2#8 code .empty))) ∧
      ((s.sched.zoneClaims.get z).holder = none → exec (.playClip h (unitNo z) clip 255) s =
        .next (State.settled ((zoned (s.heard h.port) { x with
          voice := none, duck := if x.voice = none then x.duck else turned false }).reply h.port 0xB2#8 .done
          .empty)))) ∧
    (∀ (h : FrameHead) (clip : ClipId) (attenuation : Nat), s.AdmitsService h → attenuation ≠ 255 →
      (s.mixer.defined clip = none → exec (.playClip h (unitNo z) clip attenuation) s =
        .next ((s.heard h.port).answered h.port 0xB2#8 .notDefined .empty)) ∧
      (s.mixer.defined clip ≠ none → s.mixer.latch = true → exec (.playClip h (unitNo z) clip attenuation) s =
        .next ((s.heard h.port).answered h.port 0xB2#8 .storeFault .empty))) ∧
    (∀ v, x.voice = some v → v.item.track = none →
      reached s.now (later v.started (ceilDiv v.buffer.length 24)) = true →
      (x.waiting = [] → (s.sched.zoneClaims.get z).holder = none →
        exec (.clipEnd z) s = .next (zoned s { x with voice := none, duck := turned false }).settled) ∧
      (∀ next rest start length, x.waiting = next :: rest → s.mixer.clips.get next.clip = .defined start length →
        exec (.clipEnd z) s = .next (zoned s { x with
          voice := some (voice next start length), waiting := rest }).settled))

/-- The Mixer takes a floor zone's change, the emergency stop, which cuts every zone, stops its bed and mutes it, and
Resume, which unmutes the zones and starts their beds at the base attenuation (R15, R130, R133, R136). Deliveries wait
for each block (assumption log 12). -/
def Obligations.MixerTakesZonesAndStops : Prop :=
  ∀ s : State, s.quiet = true →
    (∀ (z : FloorZone) (change : ZoneState) (follows : Option FloorZone) (before after : List ZoneChange),
      s.delivery.zoneMixer = before ++ ⟨z, change, follows⟩ :: after →
      (∀ y ∈ before, y.zone ≠ z ∧ follows ≠ some y.zone) →
      exec (.zoneChangeMixer z) s = .next { s with
        delivery := { s.delivery with zoneMixer := before ++ after },
        mixer := { s.mixer with occupied := s.mixer.occupied.set z (decide (change ≠ .clear)) } }) ∧
    (∀ rest, s.delivery.stopMixer = .on :: rest → s.sched.queue = [] → s.mixer.read = none →
      (∀ z, (s.sched.zoneClaims.get z).holder = none ∧ (∀ v, (s.mixer.zones.get z).voice = some v → v.item.track = none) ∧
        ∀ y ∈ (s.mixer.zones.get z).waiting, y.track = none) →
      exec .estopOnMixer s = .next (State.settled { s with
        delivery := { s.delivery with stopMixer := rest },
        mixer := { s.mixer with zones := .ofFn fun z => { s.mixer.zones.get z with
          voice := none, waiting := [], bed := none, muted := true,
          duck := { start := 0, up := false, t0 := s.now } } } })) ∧
    (∀ rest, s.delivery.stopMixer = .resume :: rest → s.mixer.read = none →
      exec .resumeMixer s = .next (State.settled { s with
        delivery := { s.delivery with stopMixer := rest },
        mixer := { s.mixer with zones := .ofFn fun z =>
          let x := s.mixer.zones.get z
          { x with
            muted := false, ramp := { start := x.defn.base, target := x.defn.base, t0 := 0, duration := 0 },
            bed := match x.defn.bed.bind s.mixer.defined with
              | some (start, length) => if s.mixer.latch then x.bed else some (Buffer.start start length true)
              | none => x.bed } } }))

/-- The Clip Reader: a block answered within 2 ms fills its slot, unless the slot was freed; an unanswered one sets
the clip store fault latch with a FAULT notice, and stops the beds; a probe falls due every 500 ms while the latch is
set, and its outcome says whether the flash answers (R126 to R128, R149). A probe in flight at an acknowledgement
still gives its outcome (assumption log 25). That a PROBE_DUE with the latch clear leaves the state as it is, is the
model's choice (assumption log 9). -/
def Obligations.ClipReadsFillSlotsOrLatch : Prop :=
  ∀ s : State,
    (∀ issued b slot block, s.mixer.read = some { issued := issued, target := .slot b slot, block := block } →
      (elapsed s.now issued ≤ 2 →
        (∀ i, slot = some i → exec .clipReadDone s = .next (State.settled { s with
          mixer := Mixer.modBuffer { s.mixer with read := none } b fun x => { x with
            slots := x.slots.modify i fun t => { t with content := .filled ((List.range 256).map fun k =>
              readSample s.store.clips (512 * block + 2 * k)) } } })) ∧
        (slot = none → exec .clipReadDone s = .next (State.settled { s with mixer := { s.mixer with read := none } }))) ∧
      (2 ≤ elapsed s.now issued → s.sched.queue = [] →
        (s.mixer.latch = true → exec .clipReadTimeout s =
          .next (State.settled { s with mixer := { s.mixer with read := none } })) ∧
        (s.mixer.latch = false → (∀ z, (s.mixer.zones.get z).voice = none ∧ (s.mixer.zones.get z).waiting = []) →
          exec .clipReadTimeout s = .next (State.settled (State.note { s with
            mixer := { s.mixer with
              read := none, latch := true, answering := false, probeAt := some (later s.now 500),
              zones := .ofFn fun z => { s.mixer.zones.get z with bed := none } },
            sched := Scheduler.reviewed { s.sched with seen := { s.sched.seen with clipFault := true } } s.motion.axes
              (!·.zones.isEmpty) } (.fault .clipStore 1 false)))))) ∧
    (∀ due, s.mixer.latch = true → s.mixer.probeAt = some due → reached s.now due = true →
      exec .probeDue s = .next (State.settled { s with
        mixer := { s.mixer with probeAt := some (later due 500), probeOwed := true } })) ∧
    (∀ issued block answered, s.mixer.read = some { issued := issued, target := .probe, block := block } →
      (answered = true → elapsed s.now issued ≤ 2) → (answered = false → 2 ≤ elapsed s.now issued) →
      exec (.probeEnd answered) s = .next (State.settled { s with
        mixer := { s.mixer with read := none, answering := answered } })) ∧
    (s.mixer.latch = false → exec .probeDue s = .next s)

/-! The stored clips and the stored show. -/

/-- BEGIN CLIP, while nothing plays, gives the clip the lowest free run of blocks that holds it, or makes it EMPTY;
with no such run it is refused NO_ROOM and the directory stands (R123, R124). The start block of an EMPTY clip is
reported as 0 (assumption log 23). -/
def Obligations.ClipsTakeLowestFreeRun : Prop :=
  (∀ (s : State) (h : FrameHead) (clip : ClipId) (length : Nat), s.AdmitsDefine h →
    let entered (e : ClipEntry) : State :=
      { s.heard h.port with mixer := { s.mixer with clips := s.mixer.clips.set clip e } }
    let others := extents (s.mixer.clips.set clip .empty)
    let n := min 16777215 length
    (s.mixer.anyPlaying = false →
      (length = 0 → exec (.beginClip h clip length) s = .next ((entered .empty).answered h.port 0x9C#8 .done
        (.clipPlace 0 (131072 - (others.map (·.2)).sum)))) ∧
      (length ≠ 0 → ∀ start, lowestFree others (ceilDiv n 256) = some start →
        exec (.beginClip h clip length) s = .next ((entered (.writing start n 0)).answered h.port 0x9C#8
          (if 16777215 < length then .adjusted else .done)
          (.clipPlace start (freeBlocks (s.mixer.clips.set clip (.writing start n 0)))))) ∧
      (length ≠ 0 → lowestFree others (ceilDiv n 256) = none →
        exec (.beginClip h clip length) s = .next ((s.heard h.port).answered h.port 0x9C#8 .noRoom .empty))) ∧
    (s.mixer.anyPlaying = true →
      exec (.beginClip h clip length) s = .next ((s.heard h.port).answered h.port 0x9C#8 .busy .empty))) ∧
  ∀ (used : List (Nat × Nat)) (n : Nat),
    let free (b : Nat) : Prop := b + n ≤ 131072 ∧ ∀ e ∈ used, b + n ≤ e.1 ∨ e.1 + e.2 ≤ b
    (∀ start, lowestFree used n = some start → free start ∧ ∀ b, free b → start ≤ b) ∧
      (lowestFree used n = none → ∀ b, ¬free b)

/-- WRITE CLIP hands the next bytes of a WRITING clip to the Show Store and stays pending; when the flash has taken
them they stand at their addresses and nowhere else, and the last of them makes the clip DEFINED; a write that fails
or is not complete after 100 ms is answered STORE_FAULT, leaves the directory as it was and touches no other address
(R125, R171). A failed write leaves free bytes at its own addresses (assumption log 4). -/
def Obligations.ClipBytesReachTheirAddresses : Prop :=
  (∀ (s : State) (h : FrameHead) (clip : ClipId) (start length written : Nat) (data : List Byte), s.AdmitsDefine h →
    s.mixer.anyPlaying = false → s.mixer.clips.get clip = .writing start length written →
    (1 ≤ data.length → data.length ≤ 240 → written + data.length ≤ 2 * length →
      exec (.writeClip h clip written data.length data) s = .next (State.settled (State.modPort { s.heard h.port with
        store := { s.store with
          writes := s.store.writes ++ [{ port := h.port, clip := clip, offset := written, data := data,
                                         address := 512 * start + written, began := none }],
          queued := s.store.queued ++ [.clipWrite] } } h.port fun x => { x with pending := some .writeClip }))) ∧
    ∀ offset, offset ≠ written ∨ 2 * length < offset + data.length →
      exec (.writeClip h clip offset data.length data) s =
        .next ((s.heard h.port).answered h.port 0x9D#8 .badBody .empty)) ∧
  ∀ (s : State) (x : ClipWrite) (more : List ClipWrite) (began : Stamp), s.store.held = some .clipWrite →
    s.store.writes = x :: more → x.began = some began → Memory.wf s.store.clips = true →
    let ended (clips : List Host.Cell) (failed : Nat) : Store :=
      { s.store with held := none, writes := more, clips := clips, failedBytes := s.store.failedBytes + failed }
    let outside (clips : List Host.Cell) : Prop :=
      ∀ a, a < x.address ∨ x.address + x.data.length ≤ a → readByte clips a = readByte s.store.clips a
    (elapsed s.now began ≤ 100 → ∃ clips,
      exec (.clipWriteEnd true) s = .next (State.settled (State.answer { s with
        store := ended clips 0, mixer := s.mixer.written x } x.port 0x9D#8 .done .empty)) ∧
      outside clips ∧ ∀ k (hk : k < x.data.length), readByte clips (x.address + k) = x.data[k]) ∧
    (∃ clips,
      let failed := State.settled (State.answer { s with store := ended clips x.data.length } x.port 0x9D#8 .storeFault
        .empty)
      (elapsed s.now began ≤ 100 → exec (.clipWriteEnd false) s = .next failed) ∧
      (100 ≤ elapsed s.now began → exec .clipWriteTimeout s = .next failed) ∧ outside clips) ∧
    ∀ start length, s.mixer.clips.get x.clip = .writing start length x.offset →
      ((s.mixer.written x).clips.get x.clip =
        if x.offset + x.data.length = 2 * length then .defined start length
        else .writing start length (x.offset + x.data.length)) ∧
      ∀ other, other ≠ x.clip → (s.mixer.written x).clips.get other = s.mixer.clips.get other

/-- STORE SHOW takes a copy of every working definition and stays pending, and the image it replaces is invalid from
the moment the store has the flash; when the flash has taken the last stage the image is the copy's and the reply
gives its length and CRC; a store that fails, or is not done after 3 s, leaves no valid image (R171 to R174). The
bytes of the image are free values (assumption logs 3 and 25). -/
def Obligations.StoreReplacesImageWhole : Prop :=
  (∀ (s : State) (h : FrameHead), s.AdmitsDefine h →
    exec (.storeShow h) s = .next (State.settled (State.modPort { s.heard h.port with
      store := { s.store with
        job := some { port := h.port, copy := s.definitions, accepted := s.now },
        queued := s.store.queued ++ [.store] } } h.port fun x => { x with pending := some .storeShow }))) ∧
  (∀ (t : Store) (now : Stamp), t.queued.head? = some .store → imageReason (t.begin now).image false = some .length) ∧
  (∀ (s : State) (j : StoreJob), s.store.job = some j → s.store.held = some .store → elapsed s.now j.accepted ≤ 3000 →
    let bytes := Config.imageBytes j.copy
    let image : FlashImage := { bytes := bytes, lengthField := some bytes.length, crcField := some (crc16 bytes),
                                definitions := some j.copy }
    exec .storeDone s = .next (State.settled (State.answer { s with
      store := { s.store with held := none, job := none, image := image } } j.port 0x9E#8 .done
      (.stored bytes.length (crc16 bytes)))) ∧
    (rangesOk j.copy = true → crossReferencesOk j.copy = true → imageReason image false = none)) ∧
  ∀ (s : State) (j : StoreJob) (byFlash : Bool), s.store.job = some j →
    (byFlash = true → s.store.held = some .store) → (byFlash = false → 3000 ≤ elapsed s.now j.accepted) →
    let image : FlashImage := { s.store.image with lengthField := none, crcField := none }
    exec (.storeFailed byFlash) s = .next (State.settled (State.answer { s with
      store := { s.store with
        held := if s.store.held = some .store then none else s.store.held,
        queued := s.store.queued.filter (· ≠ .store), job := none, image := image } } j.port 0x9E#8 .storeFault .empty)) ∧
    imageReason image false = some .length

/-! Supervision. -/

/-- A sensor's reading at a sampling instant (R140 to R143, R149). A valid one moves the state by the table, in
counts of 0.5 °C: CRITICAL is entered at C and left at or below C - 5.0, HOT entered at H and left at or below H - 5.0.
An INVALID one makes the sensor CRITICAL and sets its fault latch, with a FAULT notice where it was clear (R142). A
change gives a THERMAL notice, sets the latches of the state entered and goes to the three blocks; a reading that
changes no state changes nothing but the last reading and, where it is INVALID, the fault latch. That the change is
appended to one queue for each of the three blocks is the model's choice (assumption log 12). -/
def Obligations.SensorReadingsMakeStates : Prop :=
  (∀ (d : SensorDef) (r : Int), d.hot < d.critical →
    (nextThermal d .normal r = .critical ↔ d.critical ≤ r) ∧
    (nextThermal d .normal r = .hot ↔ d.hot ≤ r ∧ r < d.critical) ∧
    (nextThermal d .normal r = .normal ↔ r < d.hot) ∧
    (nextThermal d .hot r = .critical ↔ d.critical ≤ r) ∧
    (nextThermal d .hot r = .normal ↔ r ≤ d.hot - 10) ∧
    (nextThermal d .hot r = .hot ↔ d.hot - 10 < r ∧ r < d.critical) ∧
    (nextThermal d .critical r = .critical ↔ d.critical - 10 < r) ∧
    (nextThermal d .critical r = .normal ↔ r ≤ d.critical - 10 ∧ r ≤ d.hot - 10) ∧
    (nextThermal d .critical r = .hot ↔ r ≤ d.critical - 10 ∧ d.hot - 10 < r)) ∧
  ∀ (s : State) (n : Sensor) (r : Int), s.quiet = true → n ∈ s.supervisor.toRead →
    (s.supervisor.sensors.get n).defn.fitted = true →
    let x := s.supervisor.sensors.get n
    let t := nextThermal x.defn x.thermal r
    let taken (y : SensorState) : State := { s with supervisor := { s.supervisor with
      sensors := s.supervisor.sensors.set n y, toRead := s.supervisor.toRead.filter (· ≠ n) } }
    let delivered (u : State) (state : Thermal) : State := { u with delivery := { s.delivery with
      thermalLighting := s.delivery.thermalLighting ++ [⟨n, state, x.defn.derate⟩],
      thermalMotion := s.delivery.thermalMotion ++ [⟨n, state, x.defn.derate⟩],
      thermalScheduler := s.delivery.thermalScheduler ++ [⟨n, state, x.defn.derate⟩] } }
    let fault : List NoticeBody := if x.faultLatch then [] else [.fault .sensor (unitNo n) false]
    (-80 ≤ r → r ≤ 300 →
      (t = x.thermal → exec (.sensorReading n r) s = .next (taken { x with reading := .valid r })) ∧
      (t ≠ x.thermal → exec (.sensorReading n r) s = .next ((delivered (taken { x with
        reading := .valid r, thermal := t, hotSeen := x.hotSeen || decide (t ≠ .normal),
        criticalSeen := x.criticalSeen || decide (t = .critical) }) t).told
          (.thermal n x.thermal t (some r) .reading)))) ∧
    ((r < -80 ∨ 300 < r) →
      (x.thermal ≠ .critical → exec (.sensorReading n r) s = .next ((State.places (delivered (taken { x with
        reading := .invalid, thermal := .critical, faultLatch := true, hotSeen := true, criticalSeen := true })
          .critical) (fault ++ [.thermal n x.thermal .critical none .fault])).sends)) ∧
      (x.thermal = .critical → exec (.sensorReading n r) s = .next ((State.places (taken { x with
        reading := .invalid, faultLatch := true }) fault).sends)))

/-- A driver-fault line and the emergency-stop line pass a 5 ms filter, restarted by every change before the first
sample. A lamp group's line that becomes ACTIVE gives a FAULT notice, forces its channels to 0 in a frame made at once
and sets its latch, which the Scheduler takes; one that becomes INACTIVE leaves the latch. An axis group's line that
becomes ACTIVE faults every enabled axis of the group with the DRIVER cause, with a notice for each that was not
FAULTED, and changes no other axis; one that becomes INACTIVE is recorded (R114). An emergency-stop change goes to its
blocks; a first sample that is INACTIVE goes to none (R91, R145, R146, R149). That "emergency stop off" goes to the
Motion Controller alone, the one block on which it acts, is the model's choice (assumption log 12), and so is the order
of the axes' notices (assumption log 15). Here with every context free. -/
def Obligations.FaultAndStopLinesAreFiltered : Prop :=
  ∀ s : State, s.quiet = true → s.sched.queue = [] → (∀ c, s.sched.contexts.get c = none) →
    let changed (f : Filter) (active : Bool) : Filter := { f with
      line := active
      timer := if f.seeded then (if active = f.active then none else some (later s.now 5))
               else f.timer.map fun _ => later s.now 5 }
    let accepted (f : Filter) : Filter := { f with active := f.line, timer := none, seeded := true }
    (∀ (g : DriverGroup) (active : Bool), (s.supervisor.driver g).filter.line ≠ active →
      exec (.driverFaultLineChange g active) s = .next { s with supervisor := s.supervisor.modDriver g fun l =>
        { l with filter := changed l.filter active } }) ∧
    (∀ active, s.supervisor.estop.line ≠ active → exec (.estopLineChange active) s =
      .next { s with supervisor := { s.supervisor with estop := changed s.supervisor.estop active } }) ∧
    (∀ (g : LampGroup) (due : Stamp), (s.supervisor.lampLines.get g).filter.timer = some due →
      reached s.now due = true →
      let l := s.supervisor.lampLines.get g
      let t (latch : Bool) (sched : Scheduler) (light : Lighting) : State := { s with
        supervisor := { s.supervisor with
          lampLines := s.supervisor.lampLines.set g { filter := accepted l.filter, latch := latch } },
        sched := sched, light := light }
      let groups := s.light.groups.set g { s.light.groups.get g with lineActive := true }
      let framed : Lighting := { s.light with
        groups := groups, channels := s.light.channels.map (·.settle s.now),
        snapshot := {
          time := s.now, groups := .ofFn fun g => groupFrame (groups.get g),
          channels := .ofFn fun c => channelFrame (s.light.channels.get c) (groups.get (groupOfChannel c)) s.now } }
      (l.filter.line = true →
        exec (.driverFaultFilterExpiry (.lamp g)) s = .next ((t true
          (if l.latch then s.sched else Scheduler.reviewed { s.sched with seen := { s.sched.seen with
            lampLatch := s.sched.seen.lampLatch.set g true } } s.motion.axes (usesLamps · g)) framed).told
          (.fault .lampDriver (unitNo g) l.latch)) ∧
        ∀ c, groupOfChannel c = g → (framed.snapshot.channels.get c).output = 0) ∧
      (l.filter.line = false → l.filter.seeded = true → exec (.driverFaultFilterExpiry (.lamp g)) s =
        .next (t l.latch s.sched { s.light with
          groups := s.light.groups.set g { s.light.groups.get g with lineActive := false } })) ∧
      (l.filter.line = false → l.filter.seeded = false →
        exec (.driverFaultFilterExpiry (.lamp g)) s = .next (t l.latch s.sched s.light))) ∧
    (∀ (g : AxisGroup) (due : Stamp), (s.supervisor.axisLines.get g).filter.timer = some due →
      reached s.now due = true →
      let l := s.supervisor.axisLines.get g
      let group := s.motion.groups.get g
      let t (latch : Bool) (sched : Scheduler) (motion : MotionState) : State := { s with
        supervisor := { s.supervisor with
          axisLines := s.supervisor.axisLines.set g { filter := accepted l.filter, latch := latch } },
        sched := sched, motion := motion }
      let fresh := (units 12).filter fun a => decide (groupOfAxis a = g) && (s.motion.axes.get a).defn.enabled &&
        decide ((s.motion.axes.get a).state ≠ .faulted)
      let axes : Table 12 AxisRec := .ofFn fun a => let x := s.motion.axes.get a
        if a ∈ fresh then { x with
          state := .faulted, position := none, travel := none, target := none, kind := none, guardEffect := .none,
          steps := 0, paused := false, stoppedHoming := false, driverCause := true,
          waiting := if x.state = .moving ∨ x.state = .held ∨ x.state = .stopping then [] else x.waiting }
        else if groupOfAxis a = g ∧ x.defn.enabled = true then { x with driverCause := true } else x
      (l.filter.line = true → l.latch = false → exec (.driverFaultFilterExpiry (.axis g)) s = .next (State.places (t true
        (Scheduler.reviewed { s.sched with seen := { s.sched.seen with
          axisLatch := s.sched.seen.axisLatch.set g true } } axes (usesAxes · g))
        { s.motion with axes := axes, groups := s.motion.groups.set g { group with lineActive := true, latch := true } })
        (.fault .axisDriver (unitNo g) false :: fresh.map fun a => .faulted a none .driver)).sends) ∧
      (l.filter.line = false → l.filter.seeded = true → exec (.driverFaultFilterExpiry (.axis g)) s =
        .next (t l.latch s.sched { s.motion with groups := s.motion.groups.set g { group with lineActive := false } })) ∧
      (l.filter.line = false → l.filter.seeded = false →
        exec (.driverFaultFilterExpiry (.axis g)) s = .next (t l.latch s.sched s.motion))) ∧
    (∀ due, s.supervisor.estop.timer = some due → reached s.now due = true →
      let t (delivery : Delivery) : State := { s with
        supervisor := { s.supervisor with estop := accepted s.supervisor.estop }, delivery := delivery }
      (s.supervisor.estop.line = true → exec .estopFilterExpiry s = .next (t { s.delivery with
        stopScheduler := s.delivery.stopScheduler ++ [.on], stopLighting := s.delivery.stopLighting ++ [.on],
        stopMotion := s.delivery.stopMotion ++ [.on], stopMixer := s.delivery.stopMixer ++ [.on],
        stopOwner := s.delivery.stopOwner ++ [.on] })) ∧
      (s.supervisor.estop.line = false → s.supervisor.estop.seeded = true → exec .estopFilterExpiry s =
        .next (t { s.delivery with stopMotion := s.delivery.stopMotion ++ [.off] })) ∧
      (s.supervisor.estop.line = false → s.supervisor.estop.seeded = false →
        exec .estopFilterExpiry s = .next (t s.delivery)))

/-! The Show Clock. -/

/-- DEFINE TIMETABLE ENTRY, SET TRIM and SET TIME: an entry is replaced by the body's weekdays, minute and action, or
emptied by the action NONE, and a body with a field out of range is refused (R156); that what stands beside the action
NONE is not looked at is the model's choice (assumption log 24). A new trim is pending until the next
second; a set time is valid from now on with a new second begun, and the latest OPEN or CLOSE entry of the week before
it is applied, here one that opens a CLOSED show, with its CLOCK notice before the MODE notice (R152, R155, R156,
R158). -/
def Obligations.ClockTakesItsSettings : Prop :=
  ∀ (s : State) (h : FrameHead),
    (∀ b : TimetableBody, s.AdmitsDefine h →
      b.entry < 1 ∨ 32 < b.entry ∨ (b.action ≠ 0 ∧ (2 ^ 7 ≤ b.days ∨ 1439 < b.minute ∨ 3 < b.action ∨
        (b.action = 3 ∧ (b.scene < 1 ∨ 64 < b.scene)))) →
      exec (.defineTimetableEntry h b) s = .next ((s.heard h.port).answered h.port 0x9B#8 .badBody .empty)) ∧
    (∀ (b : TimetableBody) (e : EntryId) (x : Option TimetableEntry), s.AdmitsDefine h → unitNo e = b.entry →
      (b.action = 0 ∧ x = none) ∨ (b.days < 2 ^ 7 ∧ b.minute ≤ 1439 ∧ ∃ action,
        ((b.action = 1 ∧ action = .openShow) ∨ (b.action = 2 ∧ action = .closeShow) ∨
          ∃ i, b.action = 3 ∧ unitNo i = b.scene ∧ action = .start i) ∧
        x = some { days := (units 7).filter fun d => b.days.testBit d.val, minute := b.minute, action := action }) →
      exec (.defineTimetableEntry h b) s = .next (State.answered { s.heard h.port with
        clock := { s.clock with timetable := s.clock.timetable.set e x } } h.port 0x9B#8 .done .empty)) ∧
    (∀ trim : Int, s.AdmitsOwned h →
      let t := max (-512) (min 511 trim)
      exec (.setTrim h trim) s = .next (State.answered { s.heard h.port with
        clock := { s.clock with trimPending := t } } h.port 0xAA#8 (if t = trim then .done else .adjusted)
        (.trims t s.clock.trimInUse))) ∧
    ∀ (day : Weekday) (time : Nat), s.AdmitsOwned h → s.sched.queue = [] →
      let now : TimeOfDay := { seconds := time, weekday := day }
      let clock := { s.clock with time := some now, phase := 0, trimInUse := s.clock.trimPending }
      let best := catchUp s.clock.timetable now
      let age (x : EntryId × TimetableEntry × Weekday) : Nat :=
        (day.val * 1440 + time / 60 + 10080 - (x.2.2.val * 1440 + x.2.1.minute)) % 10080
      (time ≤ 86399 → best = none → exec (.setTime h time (unitNo day)) s = .next (State.answered { s.heard h.port with
        clock := clock } h.port 0xA9#8 .done (.timeSet now none))) ∧
      (∀ e (x : TimetableEntry) d, time ≤ 86399 → best = some (e, x, d) → x.action = .openShow → s.sched.mode = .closed →
        exec (.setTime h time (unitNo day)) s = .next (((State.places { s.heard h.port with
          clock := clock,
          sched := Scheduler.reviewed { s.sched with mode := .opened } s.motion.axes fun _ => true }
          [.clock true e .openShow d x.minute, .mode .closed .opened s.sched.returnMode .timetable]).reply h.port 0xA9#8
          .done (.timeSet now (some e))).sends)) ∧
      (86399 < time → exec (.setTime h time (unitNo day)) s =
        .next ((s.heard h.port).answered h.port 0xA9#8 .badBody .empty)) ∧
      ∀ x, best = some x → x ∈ modeFirings s.clock.timetable ∧
        ∀ y ∈ modeFirings s.clock.timetable, age x ≤ age y ∧ (age x = age y → y.1 ≤ x.1)

/-- CLOCK_MILLISECOND: the run time and the phase go on by one, and the thousandth ends the second: the pending trim is
taken into use and a valid time goes on, the weekday first at midnight. Held times count, audio plays its samples, and
the sampling instants come every 500 ms. A minute entered fires its entries with their CLOCK notices, here one: an OPEN
or a CLOSE changes the mode of a show that is CLOSED or OPEN, and a START is an arrival with source TIMETABLE, dropped
in a CLOSED show and placed in an OPEN one (R37, R38, R54, R126, R135, R140, R151 to R154, R157). The samples of a
millisecond use the slots at its end (assumption log 27), and a reading not taken by the next sampling instant is lost
(assumption log 28). -/
def Obligations.MillisecondsAdvanceTheClock : Prop :=
  ∀ s : State,
    let c := s.clock
    let time := if c.phase < 999 then c.time else c.time.map fun t =>
      if t.seconds < 86399 then { t with seconds := t.seconds + 1 } else { seconds := 0, weekday := t.weekday + 1 }
    let v := s.supervisor
    let ended : State := { s with
      clock := { c with
        runTime := c.runTime + 1, periods := c.periods + msPeriods c.trimInUse c.phase,
        phase := if c.phase < 999 then c.phase + 1 else 0,
        trimInUse := if c.phase < 999 then c.trimInUse else c.trimPending, time := time },
      mixer := s.mixer.millisecond s.now,
      supervisor := match v.nextSample with
        | some due => if reached (c.runTime + 1) due then { v with
            nextSample := some (later due 500),
            toRead := (units 4).filter fun n => (v.sensors.get n).defn.fitted } else v
        | none => v,
      inputs := { s.inputs with lines := .ofFn fun i => let l := s.inputs.lines.get i
        if l.active then { l with held := if l.held < 65535 then l.held + 1 else l.held } else l } }
    (c.phase < 999 ∨ c.firing = false ∨ (∀ t, time = some t → t.seconds % 60 ≠ 0) →
      exec .clockMillisecond s = .next ended.settled) ∧
    ∀ (t : TimeOfDay) (e : EntryId) (x : TimetableEntry), 999 ≤ c.phase → c.phase ≤ 999 → c.firing = true →
      time = some t → t.seconds % 60 = 0 → firingEntries c.timetable t = [(e, x)] → s.sched.queue = [] →
      let fired (sched : Scheduler) (notices : List NoticeBody) : State := State.settled (State.places
        { ended with sched := sched } (.clock false e x.action t.weekday x.minute :: notices))
      let modes (m : Mode) : Scheduler :=
        Scheduler.reviewed { s.sched with mode := m } s.motion.axes fun _ => true
      ((x.action = .closeShow ∧ s.sched.mode = .closed) ∨ (x.action = .openShow ∧ s.sched.mode = .opened) →
        exec .clockMillisecond s = .next (fired s.sched [])) ∧
      (x.action = .openShow → s.sched.mode = .closed → exec .clockMillisecond s = .next (fired (modes .opened)
        [.mode .closed .opened s.sched.returnMode .timetable])) ∧
      (x.action = .closeShow → s.sched.mode = .opened → exec .clockMillisecond s = .next (fired (modes .closed)
        [.mode .opened .closed s.sched.returnMode .timetable])) ∧
      ∀ i, x.action = .start i → s.sched.suspended = false →
        let y := s.sched.scenes.get i
        (s.sched.mode = .closed → exec .clockMillisecond s = .next (fired s.sched [.dropped i (.timetable e) .closed])) ∧
        ∀ r, s.sched.mode = .opened → y.state = .idle → y.record = some r → y.ready.overall = false → r.waitLimit ≠ 0 →
          exec .clockMillisecond s = .next (fired { s.sched with
            queue := [{ scene := i, source := .timetable e, priority := r.priority, arrival := c.runTime + 1,
                        expiry := later (c.runTime + 1) (1000 * r.waitLimit), preempting := false }],
            scenes := s.sched.scenes.set i { y with state := .queued } } [.scene i .idle .queued none none y.runs])

/-! Control. -/

/-- TAKE CONTROL: in STANDSTILL it is refused; with every context free it is granted at once, and the mode is SERVICE
with the mode before it kept; with a context occupied it waits, dispatch is suspended, and the grant comes when the
last context has freed. The emergency stop cancels a waiting take (R56, R166, R167). A TAKE CONTROL while the service
link is the owner is answered DONE (assumption log 23). That the Control Owner takes the oldest message of a queue of its
own is the model's choice (assumption log 12). -/
def Obligations.ControlIsTakenWhenStagesAreFree : Prop :=
  ∀ (s : State) (form : Nat), form ≤ 1 → s.sched.queue = [] →
    let silence := some (later s.now 60000)
    let free := ∀ c, s.sched.contexts.get c = none
    let granted : Scheduler := Scheduler.reviewed { s.sched with
      suspended := false, serviceReturn := s.sched.mode, mode := .service } s.motion.axes fun _ => true
    let notice : NoticeBody := .mode s.sched.mode .service s.sched.returnMode .take
    let cancelled : State := { s with
      owner := { s.owner with take := none, silence := none }, sched := { s.sched with suspended := false } }
    (s.Admits { port := .serviceLink, lengthOk := true } →
      (s.sched.mode = .standstill → exec (.takeControl true form) s =
        .next ((s.heard .serviceLink).answered .serviceLink 0xB8#8 .estopActive .empty)) ∧
      (s.sched.mode ≠ .standstill → s.owner.owner = .serviceLink → exec (.takeControl true form) s =
        .next ((s.heard .serviceLink).answered .serviceLink 0xB8#8 .done .empty)) ∧
      (s.sched.mode = .closed ∨ s.sched.mode = .opened → s.owner.owner = .showLink →
        (free → exec (.takeControl true form) s = .next (((State.places { s with
          owner := { owner := .serviceLink, take := none, silence := silence }, sched := granted } [notice]).reply
          .serviceLink 0xB8#8 .done (.granted s.sched.mode)).sends)) ∧
        (¬free → form = 0 → exec (.takeControl true form) s = .next (State.modPort { s with
          owner := { s.owner with take := some .wait, silence := silence },
          sched := { s.sched with suspended := true } } .serviceLink fun x => { x with
            pending := some .takeControl })))) ∧
    (s.quiet = true → s.owner.take ≠ none → free → (s.port .serviceLink).pending = some .takeControl →
      (s.sched.mode = .closed ∨ s.sched.mode = .opened) → exec .takeGrant s = .next ((State.answer (State.places { s with
        owner := { s.owner with owner := .serviceLink, take := none }, sched := granted } [notice]) .serviceLink 0xB8#8
        .done (.granted s.sched.mode)).sends)) ∧
    (∀ rest, s.quiet = true → s.delivery.stopOwner = .on :: rest →
      let t (u : State) : State := { u with delivery := { s.delivery with stopOwner := rest } }
      (s.owner.take = none → exec .estopOnControlOwner s = .next (t s)) ∧
      (s.owner.take ≠ none → (s.port .serviceLink).pending = some .takeControl → exec .estopOnControlOwner s =
        .next (State.answered (State.modPort (t cancelled) .serviceLink fun x => { x with pending := none }) .serviceLink
          0xB8#8 .estopActive .empty))) ∧
    ∀ due, s.quiet = true → s.owner.take ≠ none → s.owner.silence = some due → reached s.now due = true →
      exec .serviceSilence s = .next (cancelled.modPort .serviceLink fun x => { x with pending := none })

/-- Control returns to the show link by GIVE BACK or by 60 s of service silence: the mode kept at the take is restored,
the test levels are cleared, and in STANDSTILL the mode to return to is changed in its place (R56, R97, R166,
R168). Here with no voice playing and no clip listed. -/
def Obligations.ControlReturnsToShowLink : Prop :=
  ∀ s : State, s.quiet = true → s.sched.queue = [] → s.mixer.read = none →
    (∀ z, (s.mixer.zones.get z).voice = none ∧ (s.mixer.zones.get z).waiting = []) →
    let cleared : Lighting := { s.light with channels := .ofFn fun c => { s.light.channels.get c with test := none } }
    let back (sched : Scheduler) : State := { s with
      owner := { s.owner with owner := .showLink, silence := none }, sched := sched, light := cleared }
    let served : Scheduler :=
      Scheduler.reviewed { s.sched with mode := s.sched.serviceReturn } s.motion.axes fun _ => true
    let notice (cause : ModeCause) : NoticeBody := .mode .service s.sched.serviceReturn s.sched.returnMode cause
    let halted : Scheduler := { s.sched with
      returnMode := if s.sched.returnMode = .service then s.sched.serviceReturn else s.sched.returnMode }
    (s.AdmitsOwned { port := .serviceLink, lengthOk := true } →
      (s.sched.mode = .service → exec (.giveBack true) s =
        .next (((State.places (back served) [notice .giveBack]).reply .serviceLink 0xB9#8 .done .empty).sends)) ∧
      (s.sched.mode = .standstill → exec (.giveBack true) s =
        .next ((back halted).answered .serviceLink 0xB9#8 .done .empty))) ∧
    ∀ due, s.owner.take = none → s.owner.silence = some due → reached s.now due = true →
      (s.sched.mode = .service → exec .serviceSilence s = .next ((back served).told (notice .silence))) ∧
      (s.sched.mode = .standstill → exec .serviceSilence s = .next (back halted))
end

