-- ==== Sys2Proof/Laws/Audio.lean ====
section
/-! SUPPORT. What the playing of a buffer gives, sample by sample (R126): the samples of a run of sample periods, the
buffer after them and the slots freed, each from the advance by one sample. -/

namespace Sys2Proof.Machine

/-- The buffer after `n` samples. -/
theorem Buffer.play_buffer (n : Nat) (b : Buffer) : (b.play n).2.1 = (fun x : Buffer => x.advance.1)^[n] b := by
  induction n generalizing b with
  | zero => rfl
  | succ n ih => simp [Buffer.play, ih]

/-- Each sample is that of the buffer as it stands at its sample period, and 0 past the length. -/
theorem Buffer.play_samples (n : Nat) (b : Buffer) : (b.play n).1 = (List.range n).map fun k =>
    let x := (fun x : Buffer => x.advance.1)^[k] b
    if x.length ≤ x.position then 0 else x.sample := by
  induction n generalizing b with
  | zero => rfl
  | succ n ih =>
    simp only [Buffer.play, ih, List.range_succ_eq_map, List.map_cons, List.map_map]
    rfl

/-- The slots freed are those that the single samples free. -/
theorem Buffer.play_freed (n : Nat) (b : Buffer) : (b.play n).2.2 =
    ((List.range n).map fun k => ((fun x : Buffer => x.advance.1)^[k] b).advance.2).sum := by
  induction n generalizing b with
  | zero => rfl
  | succ n ih => simp [Buffer.play, ih, List.range_succ_eq_map, Function.comp_def]

end Sys2Proof.Machine
end

