-- ==== Sys2Proof/Laws/State.lean ====
section
/-! SUPPORT. What each named update of State and of the working record leaves and makes, field by field. -/

namespace Sys2Proof.Machine

/-! Ports -/

@[simp] theorem State.modPort_clock (s : State) (p : Port) (f : PortState → PortState) : (s.modPort p f).clock = s.clock := rfl
@[simp] theorem State.modPort_link (s : State) (p : Port) (f : PortState → PortState) : (s.modPort p f).link = s.link.modPort p f := rfl
@[simp] theorem State.modPort_owner (s : State) (p : Port) (f : PortState → PortState) : (s.modPort p f).owner = s.owner := rfl
@[simp] theorem State.modPort_inputs (s : State) (p : Port) (f : PortState → PortState) : (s.modPort p f).inputs = s.inputs := rfl
@[simp] theorem State.modPort_sched (s : State) (p : Port) (f : PortState → PortState) : (s.modPort p f).sched = s.sched := rfl
@[simp] theorem State.modPort_cues (s : State) (p : Port) (f : PortState → PortState) : (s.modPort p f).cues = s.cues := rfl
@[simp] theorem State.modPort_light (s : State) (p : Port) (f : PortState → PortState) : (s.modPort p f).light = s.light := rfl
@[simp] theorem State.modPort_motion (s : State) (p : Port) (f : PortState → PortState) : (s.modPort p f).motion = s.motion := rfl
@[simp] theorem State.modPort_mixer (s : State) (p : Port) (f : PortState → PortState) : (s.modPort p f).mixer = s.mixer := rfl
@[simp] theorem State.modPort_supervisor (s : State) (p : Port) (f : PortState → PortState) : (s.modPort p f).supervisor = s.supervisor := rfl
@[simp] theorem State.modPort_store (s : State) (p : Port) (f : PortState → PortState) : (s.modPort p f).store = s.store := rfl
@[simp] theorem State.modPort_delivery (s : State) (p : Port) (f : PortState → PortState) : (s.modPort p f).delivery = s.delivery := rfl
@[simp] theorem State.modPort_pending (s : State) (p : Port) (f : PortState → PortState) : (s.modPort p f).pending = s.pending := rfl
@[simp] theorem State.reply_clock (s : State) (p : Port) (k : Byte) (c : ReplyCode) (b : ReplyBody) : (s.reply p k c b).clock = s.clock := rfl
@[simp] theorem State.reply_owner (s : State) (p : Port) (k : Byte) (c : ReplyCode) (b : ReplyBody) : (s.reply p k c b).owner = s.owner := rfl
@[simp] theorem State.reply_inputs (s : State) (p : Port) (k : Byte) (c : ReplyCode) (b : ReplyBody) : (s.reply p k c b).inputs = s.inputs := rfl
@[simp] theorem State.reply_sched (s : State) (p : Port) (k : Byte) (c : ReplyCode) (b : ReplyBody) : (s.reply p k c b).sched = s.sched := rfl
@[simp] theorem State.reply_cues (s : State) (p : Port) (k : Byte) (c : ReplyCode) (b : ReplyBody) : (s.reply p k c b).cues = s.cues := rfl
@[simp] theorem State.reply_light (s : State) (p : Port) (k : Byte) (c : ReplyCode) (b : ReplyBody) : (s.reply p k c b).light = s.light := rfl
@[simp] theorem State.reply_motion (s : State) (p : Port) (k : Byte) (c : ReplyCode) (b : ReplyBody) : (s.reply p k c b).motion = s.motion := rfl
@[simp] theorem State.reply_mixer (s : State) (p : Port) (k : Byte) (c : ReplyCode) (b : ReplyBody) : (s.reply p k c b).mixer = s.mixer := rfl
@[simp] theorem State.reply_supervisor (s : State) (p : Port) (k : Byte) (c : ReplyCode) (b : ReplyBody) : (s.reply p k c b).supervisor = s.supervisor := rfl
@[simp] theorem State.reply_store (s : State) (p : Port) (k : Byte) (c : ReplyCode) (b : ReplyBody) : (s.reply p k c b).store = s.store := rfl
@[simp] theorem State.reply_delivery (s : State) (p : Port) (k : Byte) (c : ReplyCode) (b : ReplyBody) : (s.reply p k c b).delivery = s.delivery := rfl
@[simp] theorem State.reply_pending (s : State) (p : Port) (k : Byte) (c : ReplyCode) (b : ReplyBody) : (s.reply p k c b).pending = s.pending := rfl
@[simp] theorem State.answer_clock (s : State) (p : Port) (k : Byte) (c : ReplyCode) (b : ReplyBody) : (s.answer p k c b).clock = s.clock := rfl
@[simp] theorem State.answer_owner (s : State) (p : Port) (k : Byte) (c : ReplyCode) (b : ReplyBody) : (s.answer p k c b).owner = s.owner := rfl
@[simp] theorem State.answer_inputs (s : State) (p : Port) (k : Byte) (c : ReplyCode) (b : ReplyBody) : (s.answer p k c b).inputs = s.inputs := rfl
@[simp] theorem State.answer_sched (s : State) (p : Port) (k : Byte) (c : ReplyCode) (b : ReplyBody) : (s.answer p k c b).sched = s.sched := rfl
@[simp] theorem State.answer_cues (s : State) (p : Port) (k : Byte) (c : ReplyCode) (b : ReplyBody) : (s.answer p k c b).cues = s.cues := rfl
@[simp] theorem State.answer_light (s : State) (p : Port) (k : Byte) (c : ReplyCode) (b : ReplyBody) : (s.answer p k c b).light = s.light := rfl
@[simp] theorem State.answer_motion (s : State) (p : Port) (k : Byte) (c : ReplyCode) (b : ReplyBody) : (s.answer p k c b).motion = s.motion := rfl
@[simp] theorem State.answer_mixer (s : State) (p : Port) (k : Byte) (c : ReplyCode) (b : ReplyBody) : (s.answer p k c b).mixer = s.mixer := rfl
@[simp] theorem State.answer_supervisor (s : State) (p : Port) (k : Byte) (c : ReplyCode) (b : ReplyBody) : (s.answer p k c b).supervisor = s.supervisor := rfl
@[simp] theorem State.answer_store (s : State) (p : Port) (k : Byte) (c : ReplyCode) (b : ReplyBody) : (s.answer p k c b).store = s.store := rfl
@[simp] theorem State.answer_delivery (s : State) (p : Port) (k : Byte) (c : ReplyCode) (b : ReplyBody) : (s.answer p k c b).delivery = s.delivery := rfl
@[simp] theorem State.answer_pending (s : State) (p : Port) (k : Byte) (c : ReplyCode) (b : ReplyBody) : (s.answer p k c b).pending = s.pending := rfl
@[simp] theorem State.answered_clock (s : State) (p : Port) (k : Byte) (c : ReplyCode) (b : ReplyBody) : (s.answered p k c b).clock = s.clock := rfl
@[simp] theorem State.answered_owner (s : State) (p : Port) (k : Byte) (c : ReplyCode) (b : ReplyBody) : (s.answered p k c b).owner = s.owner := rfl
@[simp] theorem State.answered_inputs (s : State) (p : Port) (k : Byte) (c : ReplyCode) (b : ReplyBody) : (s.answered p k c b).inputs = s.inputs := rfl
@[simp] theorem State.answered_sched (s : State) (p : Port) (k : Byte) (c : ReplyCode) (b : ReplyBody) : (s.answered p k c b).sched = s.sched := rfl
@[simp] theorem State.answered_cues (s : State) (p : Port) (k : Byte) (c : ReplyCode) (b : ReplyBody) : (s.answered p k c b).cues = s.cues := rfl
@[simp] theorem State.answered_light (s : State) (p : Port) (k : Byte) (c : ReplyCode) (b : ReplyBody) : (s.answered p k c b).light = s.light := rfl
@[simp] theorem State.answered_motion (s : State) (p : Port) (k : Byte) (c : ReplyCode) (b : ReplyBody) : (s.answered p k c b).motion = s.motion := rfl
@[simp] theorem State.answered_mixer (s : State) (p : Port) (k : Byte) (c : ReplyCode) (b : ReplyBody) : (s.answered p k c b).mixer = s.mixer := rfl
@[simp] theorem State.answered_supervisor (s : State) (p : Port) (k : Byte) (c : ReplyCode) (b : ReplyBody) : (s.answered p k c b).supervisor = s.supervisor := rfl
@[simp] theorem State.answered_store (s : State) (p : Port) (k : Byte) (c : ReplyCode) (b : ReplyBody) : (s.answered p k c b).store = s.store := rfl
@[simp] theorem State.answered_delivery (s : State) (p : Port) (k : Byte) (c : ReplyCode) (b : ReplyBody) : (s.answered p k c b).delivery = s.delivery := rfl
@[simp] theorem State.answered_pending (s : State) (p : Port) (k : Byte) (c : ReplyCode) (b : ReplyBody) : (s.answered p k c b).pending = s.pending := rfl
@[simp] theorem State.receive_clock (s : State) (p : Port) (r : Receiver) : (s.receive p r).clock = s.clock := rfl
@[simp] theorem State.receive_owner (s : State) (p : Port) (r : Receiver) : (s.receive p r).owner = s.owner := rfl
@[simp] theorem State.receive_inputs (s : State) (p : Port) (r : Receiver) : (s.receive p r).inputs = s.inputs := rfl
@[simp] theorem State.receive_sched (s : State) (p : Port) (r : Receiver) : (s.receive p r).sched = s.sched := rfl
@[simp] theorem State.receive_cues (s : State) (p : Port) (r : Receiver) : (s.receive p r).cues = s.cues := rfl
@[simp] theorem State.receive_light (s : State) (p : Port) (r : Receiver) : (s.receive p r).light = s.light := rfl
@[simp] theorem State.receive_motion (s : State) (p : Port) (r : Receiver) : (s.receive p r).motion = s.motion := rfl
@[simp] theorem State.receive_mixer (s : State) (p : Port) (r : Receiver) : (s.receive p r).mixer = s.mixer := rfl
@[simp] theorem State.receive_supervisor (s : State) (p : Port) (r : Receiver) : (s.receive p r).supervisor = s.supervisor := rfl
@[simp] theorem State.receive_store (s : State) (p : Port) (r : Receiver) : (s.receive p r).store = s.store := rfl
@[simp] theorem State.receive_delivery (s : State) (p : Port) (r : Receiver) : (s.receive p r).delivery = s.delivery := rfl
@[simp] theorem State.receive_pending (s : State) (p : Port) (r : Receiver) : (s.receive p r).pending = s.pending := rfl
@[simp] theorem State.note_clock (s : State) (b : NoticeBody) : (s.note b).clock = s.clock := rfl
@[simp] theorem State.note_link (s : State) (b : NoticeBody) : (s.note b).link = s.link.place ⟨s.now, b⟩ := rfl
@[simp] theorem State.note_owner (s : State) (b : NoticeBody) : (s.note b).owner = s.owner := rfl
@[simp] theorem State.note_inputs (s : State) (b : NoticeBody) : (s.note b).inputs = s.inputs := rfl
@[simp] theorem State.note_sched (s : State) (b : NoticeBody) : (s.note b).sched = s.sched := rfl
@[simp] theorem State.note_cues (s : State) (b : NoticeBody) : (s.note b).cues = s.cues := rfl
@[simp] theorem State.note_light (s : State) (b : NoticeBody) : (s.note b).light = s.light := rfl
@[simp] theorem State.note_motion (s : State) (b : NoticeBody) : (s.note b).motion = s.motion := rfl
@[simp] theorem State.note_mixer (s : State) (b : NoticeBody) : (s.note b).mixer = s.mixer := rfl
@[simp] theorem State.note_supervisor (s : State) (b : NoticeBody) : (s.note b).supervisor = s.supervisor := rfl
@[simp] theorem State.note_store (s : State) (b : NoticeBody) : (s.note b).store = s.store := rfl
@[simp] theorem State.note_delivery (s : State) (b : NoticeBody) : (s.note b).delivery = s.delivery := rfl
@[simp] theorem State.note_pending (s : State) (b : NoticeBody) : (s.note b).pending = s.pending := rfl
@[simp] theorem State.told_clock (s : State) (b : NoticeBody) : (s.told b).clock = s.clock := rfl
@[simp] theorem State.told_link (s : State) (b : NoticeBody) : (s.told b).link = s.link.told ⟨s.now, b⟩ := rfl
@[simp] theorem State.told_owner (s : State) (b : NoticeBody) : (s.told b).owner = s.owner := rfl
@[simp] theorem State.told_inputs (s : State) (b : NoticeBody) : (s.told b).inputs = s.inputs := rfl
@[simp] theorem State.told_sched (s : State) (b : NoticeBody) : (s.told b).sched = s.sched := rfl
@[simp] theorem State.told_cues (s : State) (b : NoticeBody) : (s.told b).cues = s.cues := rfl
@[simp] theorem State.told_light (s : State) (b : NoticeBody) : (s.told b).light = s.light := rfl
@[simp] theorem State.told_motion (s : State) (b : NoticeBody) : (s.told b).motion = s.motion := rfl
@[simp] theorem State.told_mixer (s : State) (b : NoticeBody) : (s.told b).mixer = s.mixer := rfl
@[simp] theorem State.told_supervisor (s : State) (b : NoticeBody) : (s.told b).supervisor = s.supervisor := rfl
@[simp] theorem State.told_store (s : State) (b : NoticeBody) : (s.told b).store = s.store := rfl
@[simp] theorem State.told_delivery (s : State) (b : NoticeBody) : (s.told b).delivery = s.delivery := rfl
@[simp] theorem State.told_pending (s : State) (b : NoticeBody) : (s.told b).pending = s.pending := rfl

/-! The working record -/

@[simp] theorem State.commit_clock (s : State) (w : Work) : (s.commit w).clock = s.clock := rfl
@[simp] theorem State.commit_link (s : State) (w : Work) : (s.commit w).link = (w.sealed ++ w.notices).foldl Link.place s.link := rfl
@[simp] theorem State.commit_owner (s : State) (w : Work) : (s.commit w).owner = s.owner := rfl
@[simp] theorem State.commit_inputs (s : State) (w : Work) : (s.commit w).inputs = s.inputs := rfl
@[simp] theorem State.commit_sched (s : State) (w : Work) : (s.commit w).sched = w.sched := rfl
@[simp] theorem State.commit_cues (s : State) (w : Work) : (s.commit w).cues = s.cues := rfl
@[simp] theorem State.commit_light (s : State) (w : Work) : (s.commit w).light = w.light := rfl
@[simp] theorem State.commit_motion (s : State) (w : Work) : (s.commit w).motion = w.motion := rfl
@[simp] theorem State.commit_mixer (s : State) (w : Work) : (s.commit w).mixer = w.mixer := rfl
@[simp] theorem State.commit_supervisor (s : State) (w : Work) : (s.commit w).supervisor = s.supervisor := rfl
@[simp] theorem State.commit_store (s : State) (w : Work) : (s.commit w).store = s.store := rfl
@[simp] theorem State.commit_delivery (s : State) (w : Work) : (s.commit w).delivery = s.delivery := rfl
@[simp] theorem State.commit_pending (s : State) (w : Work) : (s.commit w).pending = s.pending := rfl
@[simp] theorem State.work_now (s : State) : s.work.now = s.now := rfl
@[simp] theorem State.work_cues (s : State) : s.work.cues = s.cues := rfl
@[simp] theorem State.work_sched (s : State) : s.work.sched = s.sched := rfl
@[simp] theorem State.work_light (s : State) : s.work.light = s.light := rfl
@[simp] theorem State.work_motion (s : State) : s.work.motion = s.motion := rfl
@[simp] theorem State.work_mixer (s : State) : s.work.mixer = s.mixer := rfl
@[simp] theorem State.work_sealed (s : State) : s.work.sealed = [] := rfl
@[simp] theorem State.work_notices (s : State) : s.work.notices = [] := rfl
@[simp] theorem State.work_tasks (s : State) : s.work.tasks = [] := rfl
@[simp] theorem State.work_owed (s : State) : s.work.owed = false := rfl
@[simp] theorem State.work_started (s : State) : s.work.started = [] := rfl
@[simp] theorem Work.note_now (w : Work) (b : NoticeBody) : (w.note b).now = w.now := rfl
@[simp] theorem Work.note_cues (w : Work) (b : NoticeBody) : (w.note b).cues = w.cues := rfl
@[simp] theorem Work.note_sched (w : Work) (b : NoticeBody) : (w.note b).sched = w.sched := rfl
@[simp] theorem Work.note_light (w : Work) (b : NoticeBody) : (w.note b).light = w.light := rfl
@[simp] theorem Work.note_motion (w : Work) (b : NoticeBody) : (w.note b).motion = w.motion := rfl
@[simp] theorem Work.note_mixer (w : Work) (b : NoticeBody) : (w.note b).mixer = w.mixer := rfl
@[simp] theorem Work.note_sealed (w : Work) (b : NoticeBody) : (w.note b).sealed = w.sealed := rfl
@[simp] theorem Work.note_notices (w : Work) (b : NoticeBody) : (w.note b).notices = w.notices ++ [⟨w.now, b⟩] := rfl
@[simp] theorem Work.note_tasks (w : Work) (b : NoticeBody) : (w.note b).tasks = w.tasks := rfl
@[simp] theorem Work.note_owed (w : Work) (b : NoticeBody) : (w.note b).owed = w.owed := rfl
@[simp] theorem Work.note_started (w : Work) (b : NoticeBody) : (w.note b).started = w.started := rfl
@[simp] theorem Work.push_now (w : Work) (ts : List Task) : (w.push ts).now = w.now := rfl
@[simp] theorem Work.push_cues (w : Work) (ts : List Task) : (w.push ts).cues = w.cues := rfl
@[simp] theorem Work.push_sched (w : Work) (ts : List Task) : (w.push ts).sched = w.sched := rfl
@[simp] theorem Work.push_light (w : Work) (ts : List Task) : (w.push ts).light = w.light := rfl
@[simp] theorem Work.push_motion (w : Work) (ts : List Task) : (w.push ts).motion = w.motion := rfl
@[simp] theorem Work.push_mixer (w : Work) (ts : List Task) : (w.push ts).mixer = w.mixer := rfl
@[simp] theorem Work.push_sealed (w : Work) (ts : List Task) : (w.push ts).sealed = w.sealed := rfl
@[simp] theorem Work.push_notices (w : Work) (ts : List Task) : (w.push ts).notices = w.notices := rfl
@[simp] theorem Work.push_tasks (w : Work) (ts : List Task) : (w.push ts).tasks = w.tasks ++ ts := rfl
@[simp] theorem Work.push_owed (w : Work) (ts : List Task) : (w.push ts).owed = w.owed := rfl
@[simp] theorem Work.push_started (w : Work) (ts : List Task) : (w.push ts).started = w.started := rfl
@[simp] theorem Work.sealNotices_now (w : Work) : (w.sealNotices).now = w.now := rfl
@[simp] theorem Work.sealNotices_cues (w : Work) : (w.sealNotices).cues = w.cues := rfl
@[simp] theorem Work.sealNotices_sched (w : Work) : (w.sealNotices).sched = w.sched := rfl
@[simp] theorem Work.sealNotices_light (w : Work) : (w.sealNotices).light = w.light := rfl
@[simp] theorem Work.sealNotices_motion (w : Work) : (w.sealNotices).motion = w.motion := rfl
@[simp] theorem Work.sealNotices_mixer (w : Work) : (w.sealNotices).mixer = w.mixer := rfl
@[simp] theorem Work.sealNotices_sealed (w : Work) : (w.sealNotices).sealed = w.sealed ++ w.notices := rfl
@[simp] theorem Work.sealNotices_notices (w : Work) : (w.sealNotices).notices = [] := rfl
@[simp] theorem Work.sealNotices_tasks (w : Work) : (w.sealNotices).tasks = w.tasks := rfl
@[simp] theorem Work.sealNotices_owed (w : Work) : (w.sealNotices).owed = w.owed := rfl
@[simp] theorem Work.sealNotices_started (w : Work) : (w.sealNotices).started = w.started := rfl
@[simp] theorem Work.modScene_now (w : Work) (i : SceneId) (f : Scene → Scene) : (w.modScene i f).now = w.now := rfl
@[simp] theorem Work.modScene_cues (w : Work) (i : SceneId) (f : Scene → Scene) : (w.modScene i f).cues = w.cues := rfl
@[simp] theorem Work.modScene_sched (w : Work) (i : SceneId) (f : Scene → Scene) : (w.modScene i f).sched = { w.sched with scenes := w.sched.scenes.modify i f } := rfl
@[simp] theorem Work.modScene_light (w : Work) (i : SceneId) (f : Scene → Scene) : (w.modScene i f).light = w.light := rfl
@[simp] theorem Work.modScene_motion (w : Work) (i : SceneId) (f : Scene → Scene) : (w.modScene i f).motion = w.motion := rfl
@[simp] theorem Work.modScene_mixer (w : Work) (i : SceneId) (f : Scene → Scene) : (w.modScene i f).mixer = w.mixer := rfl
@[simp] theorem Work.modScene_sealed (w : Work) (i : SceneId) (f : Scene → Scene) : (w.modScene i f).sealed = w.sealed := rfl
@[simp] theorem Work.modScene_notices (w : Work) (i : SceneId) (f : Scene → Scene) : (w.modScene i f).notices = w.notices := rfl
@[simp] theorem Work.modScene_tasks (w : Work) (i : SceneId) (f : Scene → Scene) : (w.modScene i f).tasks = w.tasks := rfl
@[simp] theorem Work.modScene_owed (w : Work) (i : SceneId) (f : Scene → Scene) : (w.modScene i f).owed = w.owed := rfl
@[simp] theorem Work.modScene_started (w : Work) (i : SceneId) (f : Scene → Scene) : (w.modScene i f).started = w.started := rfl
@[simp] theorem Work.setCtx_now (w : Work) (c : CtxId) (x : Option Context) : (w.setCtx c x).now = w.now := rfl
@[simp] theorem Work.setCtx_cues (w : Work) (c : CtxId) (x : Option Context) : (w.setCtx c x).cues = w.cues := rfl
@[simp] theorem Work.setCtx_sched (w : Work) (c : CtxId) (x : Option Context) : (w.setCtx c x).sched = { w.sched with contexts := w.sched.contexts.set c x } := rfl
@[simp] theorem Work.setCtx_light (w : Work) (c : CtxId) (x : Option Context) : (w.setCtx c x).light = w.light := rfl
@[simp] theorem Work.setCtx_motion (w : Work) (c : CtxId) (x : Option Context) : (w.setCtx c x).motion = w.motion := rfl
@[simp] theorem Work.setCtx_mixer (w : Work) (c : CtxId) (x : Option Context) : (w.setCtx c x).mixer = w.mixer := rfl
@[simp] theorem Work.setCtx_sealed (w : Work) (c : CtxId) (x : Option Context) : (w.setCtx c x).sealed = w.sealed := rfl
@[simp] theorem Work.setCtx_notices (w : Work) (c : CtxId) (x : Option Context) : (w.setCtx c x).notices = w.notices := rfl
@[simp] theorem Work.setCtx_tasks (w : Work) (c : CtxId) (x : Option Context) : (w.setCtx c x).tasks = w.tasks := rfl
@[simp] theorem Work.setCtx_owed (w : Work) (c : CtxId) (x : Option Context) : (w.setCtx c x).owed = w.owed := rfl
@[simp] theorem Work.setCtx_started (w : Work) (c : CtxId) (x : Option Context) : (w.setCtx c x).started = w.started := rfl
@[simp] theorem Work.modCtx_now (w : Work) (c : CtxId) (f : Context → Context) : (w.modCtx c f).now = w.now := rfl
@[simp] theorem Work.modCtx_cues (w : Work) (c : CtxId) (f : Context → Context) : (w.modCtx c f).cues = w.cues := rfl
@[simp] theorem Work.modCtx_sched (w : Work) (c : CtxId) (f : Context → Context) : (w.modCtx c f).sched = { w.sched with contexts := w.sched.contexts.set c ((w.ctx c).map f) } := rfl
@[simp] theorem Work.modCtx_light (w : Work) (c : CtxId) (f : Context → Context) : (w.modCtx c f).light = w.light := rfl
@[simp] theorem Work.modCtx_motion (w : Work) (c : CtxId) (f : Context → Context) : (w.modCtx c f).motion = w.motion := rfl
@[simp] theorem Work.modCtx_mixer (w : Work) (c : CtxId) (f : Context → Context) : (w.modCtx c f).mixer = w.mixer := rfl
@[simp] theorem Work.modCtx_sealed (w : Work) (c : CtxId) (f : Context → Context) : (w.modCtx c f).sealed = w.sealed := rfl
@[simp] theorem Work.modCtx_notices (w : Work) (c : CtxId) (f : Context → Context) : (w.modCtx c f).notices = w.notices := rfl
@[simp] theorem Work.modCtx_tasks (w : Work) (c : CtxId) (f : Context → Context) : (w.modCtx c f).tasks = w.tasks := rfl
@[simp] theorem Work.modCtx_owed (w : Work) (c : CtxId) (f : Context → Context) : (w.modCtx c f).owed = w.owed := rfl
@[simp] theorem Work.modCtx_started (w : Work) (c : CtxId) (f : Context → Context) : (w.modCtx c f).started = w.started := rfl
@[simp] theorem Work.modAxis_now (w : Work) (a : Axis) (f : AxisRec → AxisRec) : (w.modAxis a f).now = w.now := rfl
@[simp] theorem Work.modAxis_cues (w : Work) (a : Axis) (f : AxisRec → AxisRec) : (w.modAxis a f).cues = w.cues := rfl
@[simp] theorem Work.modAxis_sched (w : Work) (a : Axis) (f : AxisRec → AxisRec) : (w.modAxis a f).sched = w.sched := rfl
@[simp] theorem Work.modAxis_light (w : Work) (a : Axis) (f : AxisRec → AxisRec) : (w.modAxis a f).light = w.light := rfl
@[simp] theorem Work.modAxis_motion (w : Work) (a : Axis) (f : AxisRec → AxisRec) : (w.modAxis a f).motion = { w.motion with axes := w.motion.axes.modify a f } := rfl
@[simp] theorem Work.modAxis_mixer (w : Work) (a : Axis) (f : AxisRec → AxisRec) : (w.modAxis a f).mixer = w.mixer := rfl
@[simp] theorem Work.modAxis_sealed (w : Work) (a : Axis) (f : AxisRec → AxisRec) : (w.modAxis a f).sealed = w.sealed := rfl
@[simp] theorem Work.modAxis_notices (w : Work) (a : Axis) (f : AxisRec → AxisRec) : (w.modAxis a f).notices = w.notices := rfl
@[simp] theorem Work.modAxis_tasks (w : Work) (a : Axis) (f : AxisRec → AxisRec) : (w.modAxis a f).tasks = w.tasks := rfl
@[simp] theorem Work.modAxis_owed (w : Work) (a : Axis) (f : AxisRec → AxisRec) : (w.modAxis a f).owed = w.owed := rfl
@[simp] theorem Work.modAxis_started (w : Work) (a : Axis) (f : AxisRec → AxisRec) : (w.modAxis a f).started = w.started := rfl
@[simp] theorem Work.modZone_now (w : Work) (z : SoundZone) (f : SoundZoneState → SoundZoneState) : (w.modZone z f).now = w.now := rfl
@[simp] theorem Work.modZone_cues (w : Work) (z : SoundZone) (f : SoundZoneState → SoundZoneState) : (w.modZone z f).cues = w.cues := rfl
@[simp] theorem Work.modZone_sched (w : Work) (z : SoundZone) (f : SoundZoneState → SoundZoneState) : (w.modZone z f).sched = w.sched := rfl
@[simp] theorem Work.modZone_light (w : Work) (z : SoundZone) (f : SoundZoneState → SoundZoneState) : (w.modZone z f).light = w.light := rfl
@[simp] theorem Work.modZone_motion (w : Work) (z : SoundZone) (f : SoundZoneState → SoundZoneState) : (w.modZone z f).motion = w.motion := rfl
@[simp] theorem Work.modZone_mixer (w : Work) (z : SoundZone) (f : SoundZoneState → SoundZoneState) : (w.modZone z f).mixer = { w.mixer with zones := w.mixer.zones.modify z f } := rfl
@[simp] theorem Work.modZone_sealed (w : Work) (z : SoundZone) (f : SoundZoneState → SoundZoneState) : (w.modZone z f).sealed = w.sealed := rfl
@[simp] theorem Work.modZone_notices (w : Work) (z : SoundZone) (f : SoundZoneState → SoundZoneState) : (w.modZone z f).notices = w.notices := rfl
@[simp] theorem Work.modZone_tasks (w : Work) (z : SoundZone) (f : SoundZoneState → SoundZoneState) : (w.modZone z f).tasks = w.tasks := rfl
@[simp] theorem Work.modZone_owed (w : Work) (z : SoundZone) (f : SoundZoneState → SoundZoneState) : (w.modZone z f).owed = w.owed := rfl
@[simp] theorem Work.modZone_started (w : Work) (z : SoundZone) (f : SoundZoneState → SoundZoneState) : (w.modZone z f).started = w.started := rfl
@[simp] theorem Work.modChannel_now (w : Work) (c : Channel) (f : ChannelState → ChannelState) : (w.modChannel c f).now = w.now := rfl
@[simp] theorem Work.modChannel_cues (w : Work) (c : Channel) (f : ChannelState → ChannelState) : (w.modChannel c f).cues = w.cues := rfl
@[simp] theorem Work.modChannel_sched (w : Work) (c : Channel) (f : ChannelState → ChannelState) : (w.modChannel c f).sched = w.sched := rfl
@[simp] theorem Work.modChannel_light (w : Work) (c : Channel) (f : ChannelState → ChannelState) : (w.modChannel c f).light = { w.light with channels := w.light.channels.modify c f } := rfl
@[simp] theorem Work.modChannel_motion (w : Work) (c : Channel) (f : ChannelState → ChannelState) : (w.modChannel c f).motion = w.motion := rfl
@[simp] theorem Work.modChannel_mixer (w : Work) (c : Channel) (f : ChannelState → ChannelState) : (w.modChannel c f).mixer = w.mixer := rfl
@[simp] theorem Work.modChannel_sealed (w : Work) (c : Channel) (f : ChannelState → ChannelState) : (w.modChannel c f).sealed = w.sealed := rfl
@[simp] theorem Work.modChannel_notices (w : Work) (c : Channel) (f : ChannelState → ChannelState) : (w.modChannel c f).notices = w.notices := rfl
@[simp] theorem Work.modChannel_tasks (w : Work) (c : Channel) (f : ChannelState → ChannelState) : (w.modChannel c f).tasks = w.tasks := rfl
@[simp] theorem Work.modChannel_owed (w : Work) (c : Channel) (f : ChannelState → ChannelState) : (w.modChannel c f).owed = w.owed := rfl
@[simp] theorem Work.modChannel_started (w : Work) (c : Channel) (f : ChannelState → ChannelState) : (w.modChannel c f).started = w.started := rfl

/-! The blocks of the part -/

@[simp] theorem State.modInput_clock (s : State) (i : InputId) (f : InputLine → InputLine) : (s.modInput i f).clock = s.clock := rfl
@[simp] theorem State.modInput_link (s : State) (i : InputId) (f : InputLine → InputLine) : (s.modInput i f).link = s.link := rfl
@[simp] theorem State.modInput_owner (s : State) (i : InputId) (f : InputLine → InputLine) : (s.modInput i f).owner = s.owner := rfl
@[simp] theorem State.modInput_inputs (s : State) (i : InputId) (f : InputLine → InputLine) : (s.modInput i f).inputs = { s.inputs with lines := s.inputs.lines.modify i f } := rfl
@[simp] theorem State.modInput_sched (s : State) (i : InputId) (f : InputLine → InputLine) : (s.modInput i f).sched = s.sched := rfl
@[simp] theorem State.modInput_cues (s : State) (i : InputId) (f : InputLine → InputLine) : (s.modInput i f).cues = s.cues := rfl
@[simp] theorem State.modInput_light (s : State) (i : InputId) (f : InputLine → InputLine) : (s.modInput i f).light = s.light := rfl
@[simp] theorem State.modInput_motion (s : State) (i : InputId) (f : InputLine → InputLine) : (s.modInput i f).motion = s.motion := rfl
@[simp] theorem State.modInput_mixer (s : State) (i : InputId) (f : InputLine → InputLine) : (s.modInput i f).mixer = s.mixer := rfl
@[simp] theorem State.modInput_supervisor (s : State) (i : InputId) (f : InputLine → InputLine) : (s.modInput i f).supervisor = s.supervisor := rfl
@[simp] theorem State.modInput_store (s : State) (i : InputId) (f : InputLine → InputLine) : (s.modInput i f).store = s.store := rfl
@[simp] theorem State.modInput_delivery (s : State) (i : InputId) (f : InputLine → InputLine) : (s.modInput i f).delivery = s.delivery := rfl
@[simp] theorem State.modInput_pending (s : State) (i : InputId) (f : InputLine → InputLine) : (s.modInput i f).pending = s.pending := rfl
@[simp] theorem State.modChannel_clock (s : State) (c : Channel) (f : ChannelState → ChannelState) : (s.modChannel c f).clock = s.clock := rfl
@[simp] theorem State.modChannel_link (s : State) (c : Channel) (f : ChannelState → ChannelState) : (s.modChannel c f).link = s.link := rfl
@[simp] theorem State.modChannel_owner (s : State) (c : Channel) (f : ChannelState → ChannelState) : (s.modChannel c f).owner = s.owner := rfl
@[simp] theorem State.modChannel_inputs (s : State) (c : Channel) (f : ChannelState → ChannelState) : (s.modChannel c f).inputs = s.inputs := rfl
@[simp] theorem State.modChannel_sched (s : State) (c : Channel) (f : ChannelState → ChannelState) : (s.modChannel c f).sched = s.sched := rfl
@[simp] theorem State.modChannel_cues (s : State) (c : Channel) (f : ChannelState → ChannelState) : (s.modChannel c f).cues = s.cues := rfl
@[simp] theorem State.modChannel_light (s : State) (c : Channel) (f : ChannelState → ChannelState) : (s.modChannel c f).light = { s.light with channels := s.light.channels.modify c f } := rfl
@[simp] theorem State.modChannel_motion (s : State) (c : Channel) (f : ChannelState → ChannelState) : (s.modChannel c f).motion = s.motion := rfl
@[simp] theorem State.modChannel_mixer (s : State) (c : Channel) (f : ChannelState → ChannelState) : (s.modChannel c f).mixer = s.mixer := rfl
@[simp] theorem State.modChannel_supervisor (s : State) (c : Channel) (f : ChannelState → ChannelState) : (s.modChannel c f).supervisor = s.supervisor := rfl
@[simp] theorem State.modChannel_store (s : State) (c : Channel) (f : ChannelState → ChannelState) : (s.modChannel c f).store = s.store := rfl
@[simp] theorem State.modChannel_delivery (s : State) (c : Channel) (f : ChannelState → ChannelState) : (s.modChannel c f).delivery = s.delivery := rfl
@[simp] theorem State.modChannel_pending (s : State) (c : Channel) (f : ChannelState → ChannelState) : (s.modChannel c f).pending = s.pending := rfl
@[simp] theorem State.modLampGroup_clock (s : State) (g : LampGroup) (f : LampGroupState → LampGroupState) : (s.modLampGroup g f).clock = s.clock := rfl
@[simp] theorem State.modLampGroup_link (s : State) (g : LampGroup) (f : LampGroupState → LampGroupState) : (s.modLampGroup g f).link = s.link := rfl
@[simp] theorem State.modLampGroup_owner (s : State) (g : LampGroup) (f : LampGroupState → LampGroupState) : (s.modLampGroup g f).owner = s.owner := rfl
@[simp] theorem State.modLampGroup_inputs (s : State) (g : LampGroup) (f : LampGroupState → LampGroupState) : (s.modLampGroup g f).inputs = s.inputs := rfl
@[simp] theorem State.modLampGroup_sched (s : State) (g : LampGroup) (f : LampGroupState → LampGroupState) : (s.modLampGroup g f).sched = s.sched := rfl
@[simp] theorem State.modLampGroup_cues (s : State) (g : LampGroup) (f : LampGroupState → LampGroupState) : (s.modLampGroup g f).cues = s.cues := rfl
@[simp] theorem State.modLampGroup_light (s : State) (g : LampGroup) (f : LampGroupState → LampGroupState) : (s.modLampGroup g f).light = { s.light with groups := s.light.groups.modify g f } := rfl
@[simp] theorem State.modLampGroup_motion (s : State) (g : LampGroup) (f : LampGroupState → LampGroupState) : (s.modLampGroup g f).motion = s.motion := rfl
@[simp] theorem State.modLampGroup_mixer (s : State) (g : LampGroup) (f : LampGroupState → LampGroupState) : (s.modLampGroup g f).mixer = s.mixer := rfl
@[simp] theorem State.modLampGroup_supervisor (s : State) (g : LampGroup) (f : LampGroupState → LampGroupState) : (s.modLampGroup g f).supervisor = s.supervisor := rfl
@[simp] theorem State.modLampGroup_store (s : State) (g : LampGroup) (f : LampGroupState → LampGroupState) : (s.modLampGroup g f).store = s.store := rfl
@[simp] theorem State.modLampGroup_delivery (s : State) (g : LampGroup) (f : LampGroupState → LampGroupState) : (s.modLampGroup g f).delivery = s.delivery := rfl
@[simp] theorem State.modLampGroup_pending (s : State) (g : LampGroup) (f : LampGroupState → LampGroupState) : (s.modLampGroup g f).pending = s.pending := rfl
@[simp] theorem State.modAxis_clock (s : State) (a : Axis) (f : AxisRec → AxisRec) : (s.modAxis a f).clock = s.clock := rfl
@[simp] theorem State.modAxis_link (s : State) (a : Axis) (f : AxisRec → AxisRec) : (s.modAxis a f).link = s.link := rfl
@[simp] theorem State.modAxis_owner (s : State) (a : Axis) (f : AxisRec → AxisRec) : (s.modAxis a f).owner = s.owner := rfl
@[simp] theorem State.modAxis_inputs (s : State) (a : Axis) (f : AxisRec → AxisRec) : (s.modAxis a f).inputs = s.inputs := rfl
@[simp] theorem State.modAxis_sched (s : State) (a : Axis) (f : AxisRec → AxisRec) : (s.modAxis a f).sched = s.sched := rfl
@[simp] theorem State.modAxis_cues (s : State) (a : Axis) (f : AxisRec → AxisRec) : (s.modAxis a f).cues = s.cues := rfl
@[simp] theorem State.modAxis_light (s : State) (a : Axis) (f : AxisRec → AxisRec) : (s.modAxis a f).light = s.light := rfl
@[simp] theorem State.modAxis_motion (s : State) (a : Axis) (f : AxisRec → AxisRec) : (s.modAxis a f).motion = { s.motion with axes := s.motion.axes.modify a f } := rfl
@[simp] theorem State.modAxis_mixer (s : State) (a : Axis) (f : AxisRec → AxisRec) : (s.modAxis a f).mixer = s.mixer := rfl
@[simp] theorem State.modAxis_supervisor (s : State) (a : Axis) (f : AxisRec → AxisRec) : (s.modAxis a f).supervisor = s.supervisor := rfl
@[simp] theorem State.modAxis_store (s : State) (a : Axis) (f : AxisRec → AxisRec) : (s.modAxis a f).store = s.store := rfl
@[simp] theorem State.modAxis_delivery (s : State) (a : Axis) (f : AxisRec → AxisRec) : (s.modAxis a f).delivery = s.delivery := rfl
@[simp] theorem State.modAxis_pending (s : State) (a : Axis) (f : AxisRec → AxisRec) : (s.modAxis a f).pending = s.pending := rfl
@[simp] theorem State.modSensor_clock (s : State) (n : Sensor) (f : SensorState → SensorState) : (s.modSensor n f).clock = s.clock := rfl
@[simp] theorem State.modSensor_link (s : State) (n : Sensor) (f : SensorState → SensorState) : (s.modSensor n f).link = s.link := rfl
@[simp] theorem State.modSensor_owner (s : State) (n : Sensor) (f : SensorState → SensorState) : (s.modSensor n f).owner = s.owner := rfl
@[simp] theorem State.modSensor_inputs (s : State) (n : Sensor) (f : SensorState → SensorState) : (s.modSensor n f).inputs = s.inputs := rfl
@[simp] theorem State.modSensor_sched (s : State) (n : Sensor) (f : SensorState → SensorState) : (s.modSensor n f).sched = s.sched := rfl
@[simp] theorem State.modSensor_cues (s : State) (n : Sensor) (f : SensorState → SensorState) : (s.modSensor n f).cues = s.cues := rfl
@[simp] theorem State.modSensor_light (s : State) (n : Sensor) (f : SensorState → SensorState) : (s.modSensor n f).light = s.light := rfl
@[simp] theorem State.modSensor_motion (s : State) (n : Sensor) (f : SensorState → SensorState) : (s.modSensor n f).motion = s.motion := rfl
@[simp] theorem State.modSensor_mixer (s : State) (n : Sensor) (f : SensorState → SensorState) : (s.modSensor n f).mixer = s.mixer := rfl
@[simp] theorem State.modSensor_supervisor (s : State) (n : Sensor) (f : SensorState → SensorState) : (s.modSensor n f).supervisor = { s.supervisor with sensors := s.supervisor.sensors.modify n f } := rfl
@[simp] theorem State.modSensor_store (s : State) (n : Sensor) (f : SensorState → SensorState) : (s.modSensor n f).store = s.store := rfl
@[simp] theorem State.modSensor_delivery (s : State) (n : Sensor) (f : SensorState → SensorState) : (s.modSensor n f).delivery = s.delivery := rfl
@[simp] theorem State.modSensor_pending (s : State) (n : Sensor) (f : SensorState → SensorState) : (s.modSensor n f).pending = s.pending := rfl
@[simp] theorem State.modDriver_clock (s : State) (g : DriverGroup) (f : DriverLine → DriverLine) : (s.modDriver g f).clock = s.clock := rfl
@[simp] theorem State.modDriver_link (s : State) (g : DriverGroup) (f : DriverLine → DriverLine) : (s.modDriver g f).link = s.link := rfl
@[simp] theorem State.modDriver_owner (s : State) (g : DriverGroup) (f : DriverLine → DriverLine) : (s.modDriver g f).owner = s.owner := rfl
@[simp] theorem State.modDriver_inputs (s : State) (g : DriverGroup) (f : DriverLine → DriverLine) : (s.modDriver g f).inputs = s.inputs := rfl
@[simp] theorem State.modDriver_sched (s : State) (g : DriverGroup) (f : DriverLine → DriverLine) : (s.modDriver g f).sched = s.sched := rfl
@[simp] theorem State.modDriver_cues (s : State) (g : DriverGroup) (f : DriverLine → DriverLine) : (s.modDriver g f).cues = s.cues := rfl
@[simp] theorem State.modDriver_light (s : State) (g : DriverGroup) (f : DriverLine → DriverLine) : (s.modDriver g f).light = s.light := rfl
@[simp] theorem State.modDriver_motion (s : State) (g : DriverGroup) (f : DriverLine → DriverLine) : (s.modDriver g f).motion = s.motion := rfl
@[simp] theorem State.modDriver_mixer (s : State) (g : DriverGroup) (f : DriverLine → DriverLine) : (s.modDriver g f).mixer = s.mixer := rfl
@[simp] theorem State.modDriver_supervisor (s : State) (g : DriverGroup) (f : DriverLine → DriverLine) : (s.modDriver g f).supervisor = s.supervisor.modDriver g f := rfl
@[simp] theorem State.modDriver_store (s : State) (g : DriverGroup) (f : DriverLine → DriverLine) : (s.modDriver g f).store = s.store := rfl
@[simp] theorem State.modDriver_delivery (s : State) (g : DriverGroup) (f : DriverLine → DriverLine) : (s.modDriver g f).delivery = s.delivery := rfl
@[simp] theorem State.modDriver_pending (s : State) (g : DriverGroup) (f : DriverLine → DriverLine) : (s.modDriver g f).pending = s.pending := rfl
@[simp] theorem State.modEstop_clock (s : State) (f : Filter → Filter) : (s.modEstop f).clock = s.clock := rfl
@[simp] theorem State.modEstop_link (s : State) (f : Filter → Filter) : (s.modEstop f).link = s.link := rfl
@[simp] theorem State.modEstop_owner (s : State) (f : Filter → Filter) : (s.modEstop f).owner = s.owner := rfl
@[simp] theorem State.modEstop_inputs (s : State) (f : Filter → Filter) : (s.modEstop f).inputs = s.inputs := rfl
@[simp] theorem State.modEstop_sched (s : State) (f : Filter → Filter) : (s.modEstop f).sched = s.sched := rfl
@[simp] theorem State.modEstop_cues (s : State) (f : Filter → Filter) : (s.modEstop f).cues = s.cues := rfl
@[simp] theorem State.modEstop_light (s : State) (f : Filter → Filter) : (s.modEstop f).light = s.light := rfl
@[simp] theorem State.modEstop_motion (s : State) (f : Filter → Filter) : (s.modEstop f).motion = s.motion := rfl
@[simp] theorem State.modEstop_mixer (s : State) (f : Filter → Filter) : (s.modEstop f).mixer = s.mixer := rfl
@[simp] theorem State.modEstop_supervisor (s : State) (f : Filter → Filter) : (s.modEstop f).supervisor = { s.supervisor with estop := f s.supervisor.estop } := rfl
@[simp] theorem State.modEstop_store (s : State) (f : Filter → Filter) : (s.modEstop f).store = s.store := rfl
@[simp] theorem State.modEstop_delivery (s : State) (f : Filter → Filter) : (s.modEstop f).delivery = s.delivery := rfl
@[simp] theorem State.modEstop_pending (s : State) (f : Filter → Filter) : (s.modEstop f).pending = s.pending := rfl
@[simp] theorem State.modOwner_clock (s : State) (f : Owner → Owner) : (s.modOwner f).clock = s.clock := rfl
@[simp] theorem State.modOwner_link (s : State) (f : Owner → Owner) : (s.modOwner f).link = s.link := rfl
@[simp] theorem State.modOwner_owner (s : State) (f : Owner → Owner) : (s.modOwner f).owner = f s.owner := rfl
@[simp] theorem State.modOwner_inputs (s : State) (f : Owner → Owner) : (s.modOwner f).inputs = s.inputs := rfl
@[simp] theorem State.modOwner_sched (s : State) (f : Owner → Owner) : (s.modOwner f).sched = s.sched := rfl
@[simp] theorem State.modOwner_cues (s : State) (f : Owner → Owner) : (s.modOwner f).cues = s.cues := rfl
@[simp] theorem State.modOwner_light (s : State) (f : Owner → Owner) : (s.modOwner f).light = s.light := rfl
@[simp] theorem State.modOwner_motion (s : State) (f : Owner → Owner) : (s.modOwner f).motion = s.motion := rfl
@[simp] theorem State.modOwner_mixer (s : State) (f : Owner → Owner) : (s.modOwner f).mixer = s.mixer := rfl
@[simp] theorem State.modOwner_supervisor (s : State) (f : Owner → Owner) : (s.modOwner f).supervisor = s.supervisor := rfl
@[simp] theorem State.modOwner_store (s : State) (f : Owner → Owner) : (s.modOwner f).store = s.store := rfl
@[simp] theorem State.modOwner_delivery (s : State) (f : Owner → Owner) : (s.modOwner f).delivery = s.delivery := rfl
@[simp] theorem State.modOwner_pending (s : State) (f : Owner → Owner) : (s.modOwner f).pending = s.pending := rfl
@[simp] theorem State.noThermals_clock (s : State) : (s.noThermals).clock = s.clock := rfl
@[simp] theorem State.noThermals_link (s : State) : (s.noThermals).link = s.link := rfl
@[simp] theorem State.noThermals_owner (s : State) : (s.noThermals).owner = s.owner := rfl
@[simp] theorem State.noThermals_inputs (s : State) : (s.noThermals).inputs = s.inputs := rfl
@[simp] theorem State.noThermals_sched (s : State) : (s.noThermals).sched = s.sched := rfl
@[simp] theorem State.noThermals_cues (s : State) : (s.noThermals).cues = s.cues := rfl
@[simp] theorem State.noThermals_light (s : State) : (s.noThermals).light = s.light := rfl
@[simp] theorem State.noThermals_motion (s : State) : (s.noThermals).motion = s.motion := rfl
@[simp] theorem State.noThermals_mixer (s : State) : (s.noThermals).mixer = s.mixer := rfl
@[simp] theorem State.noThermals_supervisor (s : State) : (s.noThermals).supervisor = s.supervisor := rfl
@[simp] theorem State.noThermals_store (s : State) : (s.noThermals).store = s.store := rfl
@[simp] theorem State.noThermals_delivery (s : State) : (s.noThermals).delivery = { s.delivery with thermalLighting := [], thermalMotion := [], thermalScheduler := [] } := rfl
@[simp] theorem State.noThermals_pending (s : State) : (s.noThermals).pending = s.pending := rfl
@[simp] theorem State.tick_clock (s : State) : (s.tick).clock = s.clock.tick := rfl
@[simp] theorem State.tick_link (s : State) : (s.tick).link = s.link := rfl
@[simp] theorem State.tick_owner (s : State) : (s.tick).owner = s.owner := rfl
@[simp] theorem State.tick_inputs (s : State) : (s.tick).inputs = { s.inputs with lines := s.inputs.lines.map InputLine.tick } := rfl
@[simp] theorem State.tick_sched (s : State) : (s.tick).sched = s.sched := rfl
@[simp] theorem State.tick_cues (s : State) : (s.tick).cues = s.cues := rfl
@[simp] theorem State.tick_light (s : State) : (s.tick).light = s.light := rfl
@[simp] theorem State.tick_motion (s : State) : (s.tick).motion = s.motion := rfl
@[simp] theorem State.tick_mixer (s : State) : (s.tick).mixer = s.mixer.millisecond s.now := rfl
@[simp] theorem State.tick_supervisor (s : State) : (s.tick).supervisor = s.supervisor.tick s.clock.tick.runTime := rfl
@[simp] theorem State.tick_store (s : State) : (s.tick).store = s.store := rfl
@[simp] theorem State.tick_delivery (s : State) : (s.tick).delivery = s.delivery := rfl
@[simp] theorem State.tick_pending (s : State) : (s.tick).pending = s.pending := rfl

/-! Updates that change a field only under a condition. -/

/-- A frame heard changes the silence timer and nothing else. -/
theorem State.heard_eq (s : State) (p : Port) :
    s.heard p = { s with owner := { s.owner with silence :=
      if p = .serviceLink ∧ s.owner.silence.isSome then some (later s.now 60000) else s.owner.silence } } := by
  unfold State.heard; split <;> rfl

@[simp] theorem State.heard_clock (s : State) (p : Port) : (s.heard p).clock = s.clock := by rw [State.heard_eq]
@[simp] theorem State.heard_link (s : State) (p : Port) : (s.heard p).link = s.link := by rw [State.heard_eq]
@[simp] theorem State.heard_inputs (s : State) (p : Port) : (s.heard p).inputs = s.inputs := by rw [State.heard_eq]
@[simp] theorem State.heard_sched (s : State) (p : Port) : (s.heard p).sched = s.sched := by rw [State.heard_eq]
@[simp] theorem State.heard_cues (s : State) (p : Port) : (s.heard p).cues = s.cues := by rw [State.heard_eq]
@[simp] theorem State.heard_light (s : State) (p : Port) : (s.heard p).light = s.light := by rw [State.heard_eq]
@[simp] theorem State.heard_motion (s : State) (p : Port) : (s.heard p).motion = s.motion := by rw [State.heard_eq]
@[simp] theorem State.heard_mixer (s : State) (p : Port) : (s.heard p).mixer = s.mixer := by rw [State.heard_eq]
@[simp] theorem State.heard_supervisor (s : State) (p : Port) : (s.heard p).supervisor = s.supervisor := by rw [State.heard_eq]
@[simp] theorem State.heard_store (s : State) (p : Port) : (s.heard p).store = s.store := by rw [State.heard_eq]
@[simp] theorem State.heard_delivery (s : State) (p : Port) : (s.heard p).delivery = s.delivery := by rw [State.heard_eq]
@[simp] theorem State.heard_pending (s : State) (p : Port) : (s.heard p).pending = s.pending := by rw [State.heard_eq]
@[simp] theorem State.heard_now (s : State) (p : Port) : (s.heard p).now = s.now := by rw [State.heard_eq]; rfl
@[simp] theorem State.heard_port (s : State) (p q : Port) : (s.heard p).port q = s.port q := by rw [State.heard_eq]; rfl
@[simp] theorem State.heard_owner_owner (s : State) (p : Port) : (s.heard p).owner.owner = s.owner.owner := by rw [State.heard_eq]
@[simp] theorem State.heard_owner_take (s : State) (p : Port) : (s.heard p).owner.take = s.owner.take := by rw [State.heard_eq]
@[simp] theorem State.heard_work (s : State) (p : Port) : (s.heard p).work = s.work := by rw [State.heard_eq]; rfl

@[simp] theorem Link.port_modPort_same (l : Link) (p : Port) (f : PortState → PortState) :
    (l.modPort p f).port p = f (l.port p) := by cases p <;> rfl

theorem Link.port_modPort_ne (l : Link) (p q : Port) (f : PortState → PortState) (h : p ≠ q) :
    (l.modPort p f).port q = l.port q := by cases p <;> cases q <;> first | rfl | exact absurd rfl h

@[simp] theorem Link.modPort_outbox (l : Link) (p : Port) (f : PortState → PortState) :
    (l.modPort p f).outbox = l.outbox := by cases p <;> rfl

@[simp] theorem Link.modPort_missed (l : Link) (p : Port) (f : PortState → PortState) :
    (l.modPort p f).missed = l.missed := by cases p <;> rfl

@[simp] theorem Link.modPort_restarting (l : Link) (p : Port) (f : PortState → PortState) :
    (l.modPort p f).restarting = l.restarting := by cases p <;> rfl

@[simp] theorem Link.modPort_baud (l : Link) (p : Port) (f : PortState → PortState) :
    (l.modPort p f).baud = l.baud := by cases p <;> rfl

end Sys2Proof.Machine
end

