-- ==== Sys2Proof/Laws/Links.lean ====
section
/-! SUPPORT. The end of an event in a part that is quiet, and the checks a request passes. -/

namespace Sys2Proof.Machine

/-! Sending. -/

/-- What starting to send does on the show link: replies go before notices (R164). -/
theorem Link.startSending_show (l : Link) : l.startSending .showLink =
    if l.showPort.transmitter = .idle then
      match l.showPort.replies with
      | r :: rest => { l with showPort := { l.showPort with replies := rest, transmitter := .reply r } }
      | [] => match l.outbox with
        | n :: rest => { l with showPort := { l.showPort with transmitter := .notice n l.missed }, outbox := rest, missed := 0 }
        | [] => l
    else l := by
  simp only [Link.startSending, Link.port, Link.modPort]
  cases l.showPort.replies <;> cases l.outbox <;> rfl

/-- What starting to send does on the service link: replies only (R164). -/
theorem Link.startSending_service (l : Link) : l.startSending .serviceLink =
    if l.servicePort.transmitter = .idle then
      match l.servicePort.replies with
      | r :: rest => { l with servicePort := { l.servicePort with replies := rest, transmitter := .reply r } }
      | [] => l
    else l := by
  simp only [Link.startSending, Link.port, Link.modPort]
  cases l.servicePort.replies <;> cases l.outbox <;> rfl

theorem Link.startSending_show_service (l : Link) : (l.startSending .showLink).servicePort = l.servicePort := by
  rw [Link.startSending_show]
  split
  · split
    · rfl
    · split <;> rfl
  · rfl

theorem Link.startSending_of_quiet (l : Link) (p : Port) (h : (l.port p).quiet = true)
    (ho : p = .showLink → l.showPort.transmitter = .idle → l.outbox = []) : l.startSending p = l := by
  unfold Link.startSending
  split
  · next hi =>
    have hr : (l.port p).replies = [] := by
      simp only [PortState.quiet, hi, decide_true, Bool.not_true, Bool.false_or, List.isEmpty_iff] at h
      exact h
    cases p with
    | showLink => simp [hr, ho rfl hi]
    | serviceLink => simp [hr]
  · rfl

/-- What quiet says of the show link. -/
theorem State.quiet_outbox {s : State} (h : s.quiet = true) (hi : s.link.showPort.transmitter = .idle) :
    s.link.outbox = [] := by
  simp only [State.quiet, Bool.and_eq_true, Bool.or_eq_true, hi] at h
  simpa using h.1.1.2

theorem State.quiet_port {s : State} (h : s.quiet = true) (p : Port) : (s.link.port p).quiet = true := by
  simp only [State.quiet, Bool.and_eq_true] at h
  cases p with
  | showLink => exact h.1.1.1
  | serviceLink => exact h.1.2

theorem State.quiet_replies {s : State} (h : s.quiet = true) (p : Port) (hi : (s.link.port p).transmitter = .idle) :
    (s.link.port p).replies = [] := by
  have := State.quiet_port h p
  simpa [PortState.quiet, hi] using this

theorem State.arbitrate_of_flash {s : State} (hf : (s.store.held.isSome || s.mixer.read.isSome ||
      (s.store.queued.isEmpty && !s.mixer.probeOwed && s.mixer.nextRead.isNone)) = true) : s.arbitrate = s := by
  unfold State.arbitrate
  split
  · rfl
  · next hn =>
    simp only [hn, Bool.false_or, Bool.and_eq_true, Bool.not_eq_true', List.isEmpty_iff,
      Option.isNone_iff_eq_none] at hf
    simp only [hf.1.1]
    have : s.mixer.issueRead s.now = s.mixer := by simp [Mixer.issueRead, hf.1.2, hf.2]
    rw [this]

theorem State.quiet_flash {s : State} (h : s.quiet = true) : (s.store.held.isSome || s.mixer.read.isSome ||
    (s.store.queued.isEmpty && !s.mixer.probeOwed && s.mixer.nextRead.isNone)) = true := by
  simp only [State.quiet, Bool.and_eq_true] at h; exact h.2

/-- Nobody can take the flash of a quiet part. -/
theorem State.arbitrate_of_quiet {s : State} (h : s.quiet = true) : s.arbitrate = s :=
  State.arbitrate_of_flash (State.quiet_flash h)

/-- Whether a part is quiet depends on its links, its Mixer and its Show Store alone. -/
theorem State.quiet_congr {s t : State} (hl : t.link = s.link) (hm : t.mixer = s.mixer) (hs : t.store = s.store) :
    t.quiet = s.quiet := by unfold State.quiet; rw [hl, hm, hs]

/-- The end of an event changes nothing in a quiet part. -/
theorem State.settled_of_quiet {s : State} (h : s.quiet = true) : s.settled = s := by
  have hs := State.quiet_port h .showLink
  have hv := State.quiet_port h .serviceLink
  have e1 : s.link.startSending .showLink = s.link :=
    Link.startSending_of_quiet _ _ hs fun _ hi => State.quiet_outbox h hi
  have e2 : s.link.startSending .serviceLink = s.link :=
    Link.startSending_of_quiet _ _ hv fun e => by cases e
  unfold State.settled
  rw [State.arbitrate_of_quiet h]
  simp only [e1, e2]

/-- `arbitrate` looks at no link. -/
theorem State.arbitrate_link (s : State) (l : Link) : { s with link := l }.arbitrate = { s.arbitrate with link := l } := by
  unfold State.arbitrate
  simp only []
  split
  · rfl
  · split <;> rfl

theorem Link.settle_reply (l : Link) (p : Port) (r : Reply) (hs : l.showPort.quiet = true)
    (ho : l.showPort.transmitter = .idle → l.outbox = []) (hv : l.servicePort.quiet = true) :
    ((l.modPort p fun x => { x with replies := x.replies ++ [r] }).startSending .showLink).startSending .serviceLink
      = l.modPort p fun x => x.answered r := by
  cases p with
  | showLink =>
    rw [Link.startSending_of_quiet _ .serviceLink]
    · simp only [Link.startSending, Link.modPort, Link.port, PortState.answered]
      by_cases hi : l.showPort.transmitter = .idle
      · have hr : l.showPort.replies = [] := by simpa [PortState.quiet, hi] using hs
        simp [hi, hr]
      · simp [hi]
    · show ((_ : Link).startSending .showLink).servicePort.quiet = true
      rw [Link.startSending_show_service]; exact hv
    · intro e; cases e
  | serviceLink =>
    rw [Link.startSending_of_quiet _ .showLink]
    · simp only [Link.startSending, Link.modPort, Link.port, PortState.answered]
      by_cases hi : l.servicePort.transmitter = .idle
      · have hr : l.servicePort.replies = [] := by simpa [PortState.quiet, hi] using hv
        simp [hi, hr]
      · simp [hi]
    · exact hs
    · intro _ hi; exact ho hi

/-- A reply placed in a quiet part. -/
theorem State.settled_reply {s : State} (h : s.quiet = true) (p : Port) (k : Byte) (c : ReplyCode) (b : ReplyBody) :
    (s.reply p k c b).settled = s.answered p k c b := by
  unfold State.settled State.reply State.modPort
  rw [State.arbitrate_link, State.arbitrate_of_quiet h]
  simp only [State.answered, State.modPort]
  rw [Link.settle_reply _ _ _ (State.quiet_port h .showLink) (State.quiet_outbox h) (State.quiet_port h .serviceLink)]

/-- A reply to a pending request, placed in a quiet part. -/
theorem State.settled_answer {s : State} (h : s.quiet = true) (p : Port) (k : Byte) (c : ReplyCode) (b : ReplyBody)
    (hp : (s.port p).pending.isSome = true) :
    (s.answer p k c b).settled = (s.modPort p fun x => { x with pending := none }).answered p k c b := by
  have e : s.answer p k c b = (s.modPort p fun x => { x with pending := none }).reply p k c b := by
    unfold State.answer State.reply State.modPort
    cases p <;> simp_all [Link.modPort, State.port, Link.port]
  rw [e]
  apply State.settled_reply
  rw [← h]
  unfold State.quiet State.modPort Link.modPort PortState.quiet
  cases p <;> rfl

/-- A notice placed in a quiet part. -/
theorem State.settled_note {s : State} (h : s.quiet = true) (b : NoticeBody) : (s.note b).settled = s.told b := by
  unfold State.settled State.note
  rw [State.arbitrate_link, State.arbitrate_of_quiet h]
  simp only [State.told]
  have hs := State.quiet_port h .showLink
  have hv := State.quiet_port h .serviceLink
  have key : ((s.link.place ⟨s.now, b⟩).startSending .showLink).startSending .serviceLink = s.link.told ⟨s.now, b⟩ := by
    by_cases hi : s.link.showPort.transmitter = .idle
    · have ho := State.quiet_outbox h hi
      have hr := State.quiet_replies h .showLink hi
      rw [Link.startSending_of_quiet _ .serviceLink]
      · simp only [Link.port] at hr
        simp [Link.startSending, Link.place, Link.told, Link.port, Link.modPort, hi, ho, hr]
      · simp only [Link.port] at hr
        simpa [Link.startSending, Link.place, Link.port, Link.modPort, hi, ho, hr] using hv
      · intro e; cases e
    · have hp : ∀ n, (s.link.place n).showPort = s.link.showPort ∧ (s.link.place n).servicePort = s.link.servicePort := by
        intro n; unfold Link.place; split <;> exact ⟨rfl, rfl⟩
      rw [Link.startSending_of_quiet _ .showLink, Link.startSending_of_quiet _ .serviceLink]
      · simp [Link.told, hi]
      · simpa [Link.port, (hp _).2] using hv
      · intro e; cases e
      · simpa [Link.port, (hp _).1] using hs
      · intro _ hj; exact absurd (by simpa [(hp _).1] using hj) hi
  rw [key]

/-- A part that was quiet and whose Mixer and Show Store stand: at the end of an event only the transmitters act. -/
theorem State.settled_sends {s t : State} (h : s.quiet = true) (hm : t.mixer = s.mixer) (hs : t.store = s.store) :
    t.settled = t.sends := by
  have e : t.arbitrate = t := State.arbitrate_of_flash (by rw [hm, hs]; exact State.quiet_flash h)
  unfold State.settled State.sends
  rw [e]

/-! Requests. -/

theorem State.heard_quiet {s : State} (p : Port) (h : s.quiet = true) : (s.heard p).quiet = true := by
  rw [State.quiet_congr (s := s)] <;> simp [h]

/-- A frame that is taken and not answered BUSY is decided by its own rule. -/
theorem State.takeFrame_of_admits {s : State} {h : FrameHead} (a : s.Admits h) (kind : Nat) (status : Bool)
    (decision : State → Host.Outcome State Fault Refusal) :
    s.takeFrame h.port kind status decision = decision (s.heard h.port) := by
  have h1 := a.room
  have h2 := a.free
  simp only [State.takeFrame, State.heard_port]
  rw [if_neg (by omega), if_neg]
  simp [State.portBusy, a.loaded, h2, a.staying]

/-- A request that the general checks let through is decided by its own rule. -/
theorem State.request_of_gate {s : State} {h : FrameHead} (a : s.Admits h) (kind : Nat) (g : Gate)
    (own : State → Taken) (hg : (s.heard h.port).gate h.port h.lengthOk g = none) :
    s.request h kind g own = (own (s.heard h.port)).outcome h.port kind := by
  unfold State.request
  rw [State.takeFrame_of_admits a]
  simp only [hg]

theorem State.gate_free {s : State} {h : FrameHead} (a : s.Admits h) :
    (s.heard h.port).gate h.port h.lengthOk Gate.free = none := by
  simp [State.gate, Gate.free, a.length]

theorem State.gate_owned {s : State} {h : FrameHead} (a : s.AdmitsOwned h) (m : Mode → Option ReplyCode)
    (hm : m s.sched.mode = none) (store : Bool) (hs : store = true → s.store.job = none) :
    (s.heard h.port).gate h.port h.lengthOk { length := true, control := true, mode := m, store := store } = none := by
  cases store with
  | false => simp [State.gate, State.controlRefusal, a.length, a.control, hm]
  | true => simp [State.gate, State.controlRefusal, a.length, a.control, hm, hs rfl]

theorem State.gate_define {s : State} {h : FrameHead} (a : s.AdmitsDefine h) :
    (s.heard h.port).gate h.port h.lengthOk Gate.define = none := by
  refine State.gate_owned ⟨a.toAdmits, a.control⟩ defineMode ?_ true fun _ => a.idle
  cases a.mode with
  | inl e => rw [e]; rfl
  | inr e => rw [e]; rfl

/-- A request that needs no control, as its own rule decides it. -/
theorem State.request_free {s : State} {h : FrameHead} (a : s.Admits h) (kind : Nat) (own : State → Taken) :
    s.request h kind Gate.free own = (own (s.heard h.port)).outcome h.port kind :=
  State.request_of_gate a kind _ own (State.gate_free a)

/-- A request that needs control in every mode, as its own rule decides it. -/
theorem State.request_owned {s : State} {h : FrameHead} (a : s.AdmitsOwned h) (kind : Nat) (own : State → Taken) :
    s.request h kind Gate.owned own = (own (s.heard h.port)).outcome h.port kind :=
  State.request_of_gate a.toAdmits kind _ own (State.gate_owned a _ rfl false (by simp))

/-- A define request, as its own rule decides it. -/
theorem State.request_define {s : State} {h : FrameHead} (a : s.AdmitsDefine h) (kind : Nat) (own : State → Taken) :
    s.request h kind Gate.define own = (own (s.heard h.port)).outcome h.port kind :=
  State.request_of_gate a.toAdmits kind _ own (State.gate_define a)

/-- A service request, as its own rule decides it. -/
theorem State.serviceRefusal_none {s : State} {h : FrameHead} (a : s.AdmitsService h) :
    (s.heard h.port).serviceRefusal h.port = none := by
  simp [State.serviceRefusal, State.controlRefusal, a.mode, a.control]

/-- A request answered in a quiet part. -/
theorem Taken.outcome_reply {s : State} (hq : s.quiet = true) (p : Port) (kind : Nat) (c : ReplyCode) (b : ReplyBody) :
    (Taken.reply s c b).outcome p kind = .next (s.answered p (replyKind kind) c b) := by
  simp only [Taken.outcome, done, State.settled_reply hq]

/-! The end of an event leaves a quiet part. -/

theorem State.arbitrate_port (s : State) : s.arbitrate.link = s.link := by
  unfold State.arbitrate
  split
  · rfl
  · split <;> rfl

theorem Link.startSending_quiet (l : Link) (p : Port) : ((l.startSending p).port p).quiet = true := by
  cases p with
  | showLink =>
    rw [Link.startSending_show]
    split
    · split
      · simp [PortState.quiet, Link.port]
      · next h => split <;> simp [PortState.quiet, Link.port, h]
    · next hi => simp [PortState.quiet, Link.port, hi]
  | serviceLink =>
    rw [Link.startSending_service]
    split
    · split
      · simp [PortState.quiet, Link.port]
      · next h => simp [PortState.quiet, Link.port, h]
    · next hi => simp [PortState.quiet, Link.port, hi]

theorem Link.startSending_outbox (l : Link)
    (h : (l.startSending .showLink).showPort.transmitter = .idle) : (l.startSending .showLink).outbox = [] := by
  revert h
  rw [Link.startSending_show]
  split
  · split
    · simp
    · split
      · simp
      · next h => simp [h]
  · next hi => intro h; exact absurd h hi

theorem Link.startSending_service_show (l : Link) : (l.startSending .serviceLink).showPort = l.showPort ∧
    (l.startSending .serviceLink).outbox = l.outbox := by
  rw [Link.startSending_service]
  split
  · split <;> exact ⟨rfl, rfl⟩
  · exact ⟨rfl, rfl⟩

theorem State.arbitrate_flash (s : State) : (s.arbitrate.store.held.isSome || s.arbitrate.mixer.read.isSome ||
    (s.arbitrate.store.queued.isEmpty && !s.arbitrate.mixer.probeOwed && s.arbitrate.mixer.nextRead.isNone)) = true := by
  unfold State.arbitrate
  split
  · next h => simp [h]
  · next h =>
    split
    · next q qs hq =>
      cases q <;> simp [Store.begin, hq]
    · next hq =>
      unfold Mixer.issueRead
      split
      · simp
      · next hp =>
        split
        · simp
        · next hn => simp [hq, hp, hn]

/-- Every event ends in a quiet part. -/
theorem State.settled_quiet (s : State) : s.settled.quiet = true := by
  have hf := State.arbitrate_flash s
  unfold State.quiet State.settled
  simp only [Bool.and_eq_true]
  refine ⟨⟨⟨?_, ?_⟩, ?_⟩, hf⟩
  · have := Link.startSending_quiet s.arbitrate.link .showLink
    rw [(Link.startSending_service_show _).1]; exact this
  · rw [(Link.startSending_service_show _).1, (Link.startSending_service_show _).2]
    by_cases hi : (s.arbitrate.link.startSending .showLink).showPort.transmitter = .idle
    · simp [Link.startSending_outbox _ hi]
    · simp [hi]
  · exact Link.startSending_quiet _ .serviceLink

end Sys2Proof.Machine
end

