-- ==== Sys2Proof/Laws/Memory.lean ====
section
/-! SUPPORT. The clip region as a memory: what is read after a write, and that every write keeps the canonical
form. -/

namespace Sys2Proof.Machine

theorem cellsAbove_mono {low low' : Nat} {m : List Host.Cell} (h : cellsAbove low m = true) (hl : low' ≤ low) :
    cellsAbove low' m = true := by
  cases m with
  | nil => rfl
  | cons c rest =>
    simp only [cellsAbove, Bool.and_eq_true, decide_eq_true_eq] at h ⊢
    exact ⟨⟨by omega, h.1.2⟩, h.2⟩

/-- No cell stands below the bound, so an address below it reads as erased. -/
theorem readByte_below {low a : Nat} {m : List Host.Cell} (h : cellsAbove low m = true) (ha : a < low) :
    readByte m a = erasedByte := by
  induction m generalizing low with
  | nil => rfl
  | cons c rest ih =>
    simp only [cellsAbove, Bool.and_eq_true, decide_eq_true_eq] at h
    simp only [readByte]
    rw [if_neg (by omega)]
    exact ih h.2 (by omega)

/-- A write keeps the canonical form. -/
theorem writeByte_above {low a : Nat} {m : List Host.Cell} (b : Byte) (h : cellsAbove low m = true) (ha : low ≤ a) :
    cellsAbove low (writeByte m a b) = true := by
  induction m generalizing low with
  | nil =>
    simp only [writeByte]
    split
    · rfl
    · next hb => simp [cellsAbove, ha, hb]
  | cons c rest ih =>
    simp only [cellsAbove, Bool.and_eq_true, decide_eq_true_eq] at h
    simp only [writeByte]
    split
    · split
      · simp [cellsAbove, h]
      · next h1 hb =>
        simp only [cellsAbove, Bool.and_eq_true, decide_eq_true_eq]
        exact ⟨⟨ha, by simpa using hb⟩, ⟨by omega, h.1.2⟩, h.2⟩
    · split
      · next h1 h2 =>
        subst h2
        split
        · exact cellsAbove_mono h.2 (by omega)
        · next hb =>
          simp only [cellsAbove, Bool.and_eq_true, decide_eq_true_eq]
          exact ⟨⟨ha, by simpa using hb⟩, h.2⟩
      · simp only [cellsAbove, Bool.and_eq_true, decide_eq_true_eq]
        exact ⟨h.1, ih h.2 (by omega)⟩

/-- A read after a write: the byte written at its address, and every other address as before. -/
theorem readByte_writeByte_above {low : Nat} {m : List Host.Cell} (a x : Nat) (b : Byte)
    (h : cellsAbove low m = true) : readByte (writeByte m a b) x = if x = a then b else readByte m x := by
  induction m generalizing low with
  | nil =>
    simp only [writeByte]
    split
    · next hb => simp [readByte, hb]
    · show (if a = x then b else erasedByte) = _
      by_cases hx : a = x
      · rw [if_pos hx, if_pos hx.symm]
      · rw [if_neg hx, if_neg fun e => hx e.symm]; rfl
  | cons c rest ih =>
    simp only [cellsAbove, Bool.and_eq_true, decide_eq_true_eq] at h
    simp only [writeByte]
    split
    · next h1 =>
      split
      · next hb =>
        split
        · next hx =>
          subst hx
          simp only [readByte]
          rw [if_neg (by omega), readByte_below h.2 (by omega), hb]
        · rfl
      · show (if a = x then b else readByte (c :: rest) x) = _
        by_cases hx : a = x
        · rw [if_pos hx, if_pos hx.symm]
        · rw [if_neg hx, if_neg fun e => hx e.symm]
    · split
      · next h1 h2 =>
        subst h2
        split
        · next hb =>
          split
          · next hx => subst hx; rw [readByte_below h.2 (by omega), hb]
          · next hx => simp only [readByte]; rw [if_neg (fun e => hx e.symm)]
        · simp only [readByte]
          split
          · next hx => rw [if_pos hx.symm]
          · next hx => rw [if_neg (fun e => hx e.symm)]
      · next h1 h2 =>
        simp only [readByte]
        rw [ih h.2]
        split
        · next hx => rw [if_neg (by omega)]
        · rfl

theorem Memory.wf_nil : Memory.wf [] = true := rfl

theorem Memory.wf_writeByte {m : List Host.Cell} (a : Nat) (b : Byte) (h : Memory.wf m = true) :
    Memory.wf (writeByte m a b) = true := writeByte_above b h (Nat.zero_le a)

theorem readByte_writeByte {m : List Host.Cell} (a x : Nat) (b : Byte) (h : Memory.wf m = true) :
    readByte (writeByte m a b) x = if x = a then b else readByte m x := readByte_writeByte_above a x b h

theorem Memory.wf_writeBytes {m : List Host.Cell} (a : Nat) (bs : List Byte) (h : Memory.wf m = true) :
    Memory.wf (writeBytes m a bs) = true := by
  induction bs generalizing m a with
  | nil => exact h
  | cons b rest ih => exact ih (a + 1) (Memory.wf_writeByte a b h)

/-- A read after a write of several bytes. -/
theorem readByte_writeBytes {m : List Host.Cell} (a x : Nat) (bs : List Byte) (h : Memory.wf m = true) :
    readByte (writeBytes m a bs) x =
      if a ≤ x ∧ x < a + bs.length then bs.getD (x - a) 0#8 else readByte m x := by
  induction bs generalizing m a with
  | nil => simp only [writeBytes, List.length_nil, Nat.add_zero]; rw [if_neg (by omega)]
  | cons b rest ih =>
    simp only [writeBytes, List.length_cons]
    rw [ih (a + 1) (Memory.wf_writeByte a b h), readByte_writeByte a x b h]
    by_cases hx : x = a
    · subst hx; rw [if_neg (by omega), if_pos rfl, if_pos (by omega)]; simp
    · by_cases hr : a + 1 ≤ x ∧ x < a + 1 + rest.length
      · rw [if_pos hr, if_pos (by omega)]
        obtain ⟨k, hk⟩ : ∃ k, x - a = k + 1 := ⟨x - a - 1, by omega⟩
        rw [hk, show x - (a + 1) = k by omega]; simp
      · rw [if_neg hr, if_neg hx, if_neg (by omega)]

/-- What a power-on finds is kept in canonical form. -/
theorem Memory.wf_canonicalCells (m : List Host.Cell) : Memory.wf (canonicalCells m) = true := by
  induction m with
  | nil => rfl
  | cons c rest ih =>
    simp only [canonicalCells]
    split
    · exact Memory.wf_writeByte c.1 c.2 ih
    · exact ih

theorem Memory.wf_reset : Memory.wf State.reset.store.clips = true := rfl

end Sys2Proof.Machine
end

