-- ==== Sys2Proof/Laws/Operations.lean ====
section
/-! SUPPORT. What each shared operation on a list or a table of one block can do, said once: the taking of a delivery,
the waiting set of an axis, the stack of a channel, the target of a master fade, the review of floor zones, exact
numbers that are rational, and the length of a show image. -/

namespace Sys2Proof

/-- The image of any definitions has a byte, so that the check of its length can pass (R174). -/
@[simp] theorem Config.imageBytes_ne_nil (d : Definitions) : Config.imageBytes d ≠ [] := List.cons_ne_nil _ _

/-! Exact numbers. -/

@[simp] theorem Surd.sign_rat (roots : List Surd) (q : Rat) : Surd.sign roots (.rat q) = ratSign q := by
  cases roots <;> rfl

theorem ratSign_nonneg (q : Rat) : 0 ≤ ratSign q ↔ 0 ≤ q := by
  unfold ratSign
  split
  · next h => simp only [Int.reduceNeg, Int.reduceLE, false_iff, not_le]; exact h
  · next h => split <;> simp [not_lt.1 h]

@[simp] theorem Surd.le_rat (roots : List Surd) (p q : Rat) : Surd.le roots (.rat p) (.rat q) = decide (p ≤ q) := by
  have e : (Surd.rat q).sub (.rat p) = .rat (q + -1 * p) := rfl
  rw [Surd.le, e, Surd.sign_rat, decide_eq_decide, ratSign_nonneg]
  constructor <;> intro h <;> linarith

@[simp] theorem Surd.floor_rat (roots : List Surd) (q : Rat) : (Surd.rat q).floor roots = q.floor := by cases roots <;> rfl

end Sys2Proof

namespace Sys2Proof.Machine

/-! Deliveries. -/

/-- The first element that meets a condition stands behind elements that do not. -/
theorem takeFirst_some {p : α → Bool} {l : List α} {x : α} {rest : List α} (h : takeFirst p l = some (x, rest)) :
    ∃ before behind, l = before ++ x :: behind ∧ rest = before ++ behind ∧ p x = true ∧ ∀ y ∈ before, p y = false := by
  induction l generalizing x rest with
  | nil => simp [takeFirst] at h
  | cons y l ih =>
    rw [takeFirst] at h
    split at h
    · next hy => cases h; exact ⟨[], l, rfl, rfl, hy, by simp⟩
    · next hy =>
      cases e : takeFirst p l with
      | none => simp [e] at h
      | some r =>
        obtain ⟨z, more⟩ := r
        rw [e] at h
        cases h
        obtain ⟨b, c, rfl, rfl, hx, hb⟩ := ih e
        exact ⟨y :: b, c, rfl, rfl, hx, by simpa [hy] using hb⟩

theorem takeFirst_cut {p : α → Bool} {x : α} (before behind : List α) (hx : p x = true) (hb : ∀ y ∈ before, p y = false) :
    takeFirst p (before ++ x :: behind) = some (x, before ++ behind) := by
  induction before with
  | nil => simp [takeFirst, hx]
  | cons y l ih => simp [takeFirst, hb y (by simp), ih fun z hz => hb z (by simp [hz])]

/-- The change of a zone that is taken is its oldest, and no change that it follows stands before it (R14, R15). -/
theorem takeZone_some {z : FloorZone} {l : List ZoneChange} {x : ZoneChange} {rest : List ZoneChange}
    (h : takeZone z l = some (x, rest)) : ∃ before behind, l = before ++ x :: behind ∧ rest = before ++ behind ∧ x.zone = z ∧
      ∀ y ∈ before, y.zone ≠ z ∧ x.follows ≠ some y.zone := by
  rw [takeZone, Option.filter_eq_some_iff] at h
  obtain ⟨b, c, rfl, rfl, hx, hb⟩ := takeFirst_some h.1
  have hz : x.zone = z := by simpa using hx
  have hn : ∀ y ∈ b, y.zone ≠ z := fun y hy => by simpa using hb y hy
  refine ⟨b, c, rfl, rfl, hz, fun y hy => ⟨hn y hy, ?_⟩⟩
  have e : (b ++ x :: c).takeWhile (fun y => decide (y.zone ≠ z)) = b := by
    rw [List.takeWhile_append_of_pos (by simpa using hn)]
    simp [hz]
  have := h.2
  rw [e] at this
  simp only [Bool.not_eq_true', List.any_eq_false, decide_eq_true_eq] at this
  exact this y hy

/-- A waiting set gains a track at most once (section 6.3, R108). -/
theorem mem_joinWaiting (ws : List TrackRef) (t : Option TrackRef) (x : TrackRef) :
    x ∈ joinWaiting ws t ↔ x ∈ ws ∨ t = some x := by
  cases t with
  | none => simp [joinWaiting]
  | some y =>
    simp only [joinWaiting, Option.toList_some, List.mem_append, List.mem_filter, List.mem_singleton,
      Bool.not_eq_true', List.contains_eq_mem, decide_eq_false_iff_not, Option.some.injEq]
    constructor
    · rintro (h | ⟨rfl, -⟩) <;> simp [*]
    · rintro (h | rfl)
      · exact .inl h
      · exact (em (y ∈ ws)).imp_right fun h => ⟨rfl, h⟩

theorem joinWaiting_nodup {ws : List TrackRef} (t : Option TrackRef) (h : ws.Nodup) : (joinWaiting ws t).Nodup := by
  cases t with
  | none => simpa [joinWaiting] using h
  | some y =>
    rw [joinWaiting, List.nodup_append]
    refine ⟨h, (List.nodup_singleton y).filter _, ?_⟩
    rintro a ha b hb rfl
    simp only [Option.toList_some, List.mem_filter, Bool.not_eq_true', List.contains_eq_mem, decide_eq_false_iff_not] at hb
    exact hb.2 ha

/-! Contribution stacks. -/

/-- A contribution is put behind those of higher priority and before the first that is not (R83). -/
theorem stackInsert_cut (x : Contribution) (l : List Contribution) :
    ∃ above below, l = above ++ below ∧ stackInsert x l = above ++ x :: below ∧ (∀ y ∈ above, x.priority < y.priority) ∧
      ∀ y, below.head? = some y → y.priority ≤ x.priority := by
  induction l with
  | nil => exact ⟨[], [], rfl, rfl, by simp, by simp⟩
  | cons y l ih =>
    rw [stackInsert]
    split
    · next h => exact ⟨[], y :: l, rfl, rfl, by simp, by simpa using h⟩
    · next h =>
      obtain ⟨a, b, rfl, e, ha, hb⟩ := ih
      exact ⟨y :: a, b, rfl, by rw [e]; rfl, by simpa using ⟨by omega, ha⟩, hb⟩

/-! Levels. -/

/-- The normal level is the test level exactly while the channel has one, so that this decides a master fade's target
(R89, R94, R95). -/
theorem ChannelState.masterTarget_eq (c : ChannelState) (g : LampGroupState) (now : Stamp) :
    c.masterTarget g now = if g.phase = .clear ∧ c.test ≠ none then 1000 else g.defn.master := by
  have h : (c.normal now).2 = .test ↔ c.test ≠ none := by
    unfold ChannelState.normal
    cases c.test with
    | some v => simp
    | none => cases c.runningHandover now <;> cases c.stack <;> simp
  simp only [ChannelState.masterTarget, h]

/-! Floor zones. -/

/-- The review of a floor zone writes that zone, and the deliveries of its change if it changes. -/
theorem State.reviewZone_cases (s : State) (z : FloorZone) (follows : Option FloorZone) : s.reviewZone z follows = s ∨
    ∃ to' expiry, s.reviewZone z follows = s.zoneTo z to' expiry follows := by
  unfold State.reviewZone
  dsimp only
  split
  · exact .inr ⟨_, _, rfl⟩
  · split
    · exact .inr ⟨_, _, rfl⟩
    · exact .inr ⟨_, _, rfl⟩
    · exact .inl rfl
    · split <;> exact .inr ⟨_, _, rfl⟩
    · exact .inl rfl
    · exact .inl rfl

end Sys2Proof.Machine
end

