-- ==== Sys2Proof/Laws/Motion.lean ====
section
/-! SUPPORT. What the exact arithmetic of a motion gives where one square root stands in a time: its whole part rounded
up, which is a motion's time of rest in whole milliseconds (R109, R110). -/

namespace Sys2Proof

@[simp] theorem ratSign_zero : ratSign 0 = 0 := rfl

theorem ratSign_neg {q : Rat} (h : q < 0) : ratSign q = -1 := by simp [ratSign, h]

theorem ratSign_pos {q : Rat} (h : 0 < q) : ratSign q = 1 := by simp [ratSign, not_lt.2 h.le, h.ne']

/-- A whole number is at most `c - b·√q` exactly where it is at most `c`, at a distance whose square is at least
`b²·q`. -/
theorem Surd.le_sub_root {q b c : Rat} (hq : 0 ≤ q) (hb : 0 ≤ b) (n : Int) :
    Surd.le [.rat q] (.rat n) (.pair (.rat c) (.rat (-b))) = true ↔ (n : Rat) ≤ c ∧ b * b * q ≤ (c - n) * (c - n) := by
  have e : (Surd.pair (.rat c) (.rat (-b))).sub (.rat n) = .pair (.rat (-1 * n + c)) (.rat (-b)) := rfl
  have e' : ((Surd.rat (-1 * n + c)).square []).sub (Surd.mul [] ((Surd.rat (-b)).square []) (.rat q)) =
    .rat ((-1 * n + c) * (-1 * n + c) + -1 * ((-b) * (-b) * q)) := rfl
  rw [Surd.le, e, decide_eq_true_eq, Surd.sign]
  simp only [Surd.sign_rat, e']
  obtain ⟨d, hd⟩ : ∃ d, d = -1 * n + c := ⟨_, rfl⟩
  rw [← hd, show c - n = d by linarith, show (n : Rat) ≤ c ↔ 0 ≤ d by constructor <;> intro <;> linarith]
  rcases hq.eq_or_lt with rfl | hq
  · simp [ratSign_nonneg, mul_self_nonneg]
  rcases hb.eq_or_lt with rfl | hb
  · simp [ratSign_nonneg, mul_self_nonneg]
  rw [ratSign_pos hq, ratSign_neg (neg_lt_zero.2 hb)]
  rcases lt_trichotomy d 0 with h | rfl | h
  · simp [ratSign_neg h, not_le.2 h]
  · have : 0 < b * b * q := by positivity
    simp [this]
  · simp [ratSign_pos h, ratSign_nonneg, h.le]

/-- The search for a whole part comes to the greatest whole number of those at most `x`, where these are all those up to
a bound between its two ends. -/
theorem Surd.le_floorFrom (roots : List Surd) (x : Surd)
    (mono : ∀ i j : Int, i ≤ j → Surd.le roots (.rat j) x = true → Surd.le roots (.rat i) x = true) :
    ∀ (bits : Nat) (n : Int), Surd.le roots (.rat n) x = true →
      Surd.le roots (.rat ((n + 2 ^ bits : Int) : Rat)) x = false →
      ∀ i : Int, i ≤ x.floorFrom roots bits n ↔ Surd.le roots (.rat i) x = true := by
  intro bits
  induction bits with
  | zero =>
    intro n h0 h1 i
    refine ⟨fun h => mono _ _ h h0, fun h => ?_⟩
    by_contra hi
    have := mono (n + 2 ^ 0) i (by simp [Surd.floorFrom] at hi ⊢; omega) h
    simp_all
  | succ k ih =>
    intro n h0 h1
    rw [Surd.floorFrom]
    split
    · next h => exact ih _ h (by rw [← h1]; congr 3; ring)
    · next h => exact ih _ h0 (by simpa using h)

theorem Surd.abs_le_bound (roots : List Surd) (q : Rat) : |q| ≤ (Surd.bound roots (.rat q) : Rat) := by
  have e : Surd.bound roots (.rat q) = q.floor.natAbs + 1 := by cases roots <;> rfl
  have h1 : (q.floor : Rat) ≤ q := Int.floor_le q
  have h2 : q < q.floor + 1 := Int.lt_floor_add_one q
  have h3 : ((q.floor.natAbs : Int) : Rat) = |(q.floor : Rat)| := by rw [Int.natCast_natAbs, Int.cast_abs]
  rw [e, abs_le]
  push_cast [← Int.cast_natCast (R := Rat) q.floor.natAbs, h3]
  have := neg_abs_le (q.floor : Rat)
  have := le_abs_self (q.floor : Rat)
  constructor <;> linarith

/-- The whole part of `c - b·√q`. -/
theorem Surd.le_floor_root {q b c : Rat} (hq : 0 ≤ q) (hb : 0 ≤ b) (i : Int) :
    i ≤ (Surd.pair (.rat c) (.rat (-b))).floor [.rat q] ↔ (i : Rat) ≤ c ∧ b * b * q ≤ (c - i) * (c - i) := by
  rw [← Surd.le_sub_root hq hb, Surd.floor]
  obtain ⟨B, hB⟩ : ∃ B, B = Surd.bound [.rat q] (.pair (.rat c) (.rat (-b))) := ⟨_, rfl⟩
  have e : B = Surd.bound [] (.rat c) + Surd.bound [] (.rat (-b)) * (Surd.bound [] (.rat q) + 1) := hB
  simp only [← hB]
  have hk : (B : Rat) < 2 ^ (B.log2 + 1) := by exact_mod_cast Nat.lt_log2_self
  have h1 := Surd.abs_le_bound [] c
  have h2 := Surd.abs_le_bound [] (-b)
  have h3 := Surd.abs_le_bound [] q
  rw [abs_neg, abs_of_nonneg hb] at h2
  rw [abs_of_nonneg hq] at h3
  have h4 : |c| + b * (q + 1) ≤ (B : Rat) := by
    rw [e]; push_cast
    have := mul_le_mul h2 (add_le_add_left h3 1) (by positivity) (by positivity)
    linarith
  have h5 := neg_abs_le c
  have h6 := le_abs_self c
  have h7 : 0 ≤ b * (q + 1) := by positivity
  refine Surd.le_floorFrom _ _ ?_ _ _ ?_ ?_ i
  · intro i j hij h
    rw [Surd.le_sub_root hq hb] at h ⊢
    have : (i : Rat) ≤ j := by exact_mod_cast hij
    exact ⟨by linarith [h.1], by nlinarith [h.1, h.2]⟩
  · rw [Surd.le_sub_root hq hb]
    push_cast
    have h8 : b * (q + 1) ≤ c + 2 ^ (B.log2 + 1) := by linarith
    have : b * b * q ≤ (b * (q + 1)) * (b * (q + 1)) := by
      have : q ≤ (q + 1) * (q + 1) := by nlinarith
      nlinarith [mul_nonneg hb hb]
    exact ⟨by linarith, by nlinarith⟩
  · rw [Bool.eq_false_iff, ne_eq, Surd.le_sub_root hq hb, not_and_or]
    push_cast
    left; rw [pow_succ (2 : Rat) (B.log2 + 1)]; linarith

/-- The whole number next above `c + b·√q`: the least one at or above `c` at a distance whose square is at least
`b²·q`. -/
theorem Surd.ceil_root_le {q b c : Rat} (hq : 0 ≤ q) (hb : 0 ≤ b) (i : Int) :
    (Surd.pair (.rat c) (.rat b)).ceil [.rat q] ≤ i ↔ c ≤ (i : Rat) ∧ b * b * q ≤ (i - c) * (i - c) := by
  have e : (Surd.pair (.rat c) (.rat b)).scale (-1) = .pair (.rat (-c)) (.rat (-b)) := by
    simp [Surd.scale]
  rw [Surd.ceil, e, neg_le, Surd.le_floor_root hq hb]
  push_cast
  constructor <;> rintro ⟨h1, h2⟩ <;> exact ⟨by linarith, by nlinarith⟩

theorem Surd.ceil_rat_le (roots : List Surd) (q : Rat) (i : Int) : (Surd.rat q).ceil roots ≤ i ↔ q ≤ i := by
  have e : (Surd.rat q).scale (-1) = .rat (-q) := by simp [Surd.scale]
  rw [Surd.ceil, e, Surd.floor_rat, neg_le]
  have h : -i ≤ ⌊-q⌋ ↔ ((-i : Int) : Rat) ≤ -q := Int.le_floor
  exact h.trans (by push_cast; exact neg_le_neg_iff)

end Sys2Proof
end

