-- ==== Sys2Proof/Laws/Run.lean ====
section
/-! SUPPORT. The reports and the scan of one event where they come to little, unit numbers, and what an event of the
Scheduler leaves alone. -/

namespace Sys2Proof.Machine

/-! Units by number. -/

@[simp] theorem unit?_unitNo (i : Fin n) : unit? n (unitNo i) = some i := by
  have := i.isLt
  simp [unit?, unitNo]

@[simp] theorem unit?_succ (i : Fin n) : unit? n (i.val + 1) = some i := unit?_unitNo i

@[simp] theorem optUnit?_succ (i : Fin n) : optUnit? n (i.val + 1) = some (some i) := by simp [optUnit?]

@[simp] theorem optUnit?_zero (n : Nat) : optUnit? n 0 = some none := rfl

@[simp] theorem optUnit?_optUnitNo (i : Option (Fin n)) : optUnit? n (optUnitNo i) = some i := by
  cases i <;> simp [optUnitNo]

/-! The end of an event. -/

/-- However long a chain with no end is followed, a first step of every chain is taken. -/
theorem eventBound_more : ∃ n, eventBound = .more n := ⟨_, rfl⟩

theorem Work.tasks_nil (w : Work) (h : w.tasks = []) : { w with tasks := [] } = w := by
  cases w; cases h; rfl

theorem Work.drain_nil (arrive : Work → SceneId → Source → Work) (n : Steps) (w : Work) (h : w.tasks = []) :
    w.drain arrive n = w := by
  cases n <;> simp [Work.drain, h, Work.tasks_nil]

/-- One report, and none that it gives rise to. -/
theorem Work.drain_one (arrive : Work → SceneId → Source → Work) (n : Steps) (w : Work) (t : Task) (h : w.tasks = [t])
    (h' : (Work.take arrive { w with tasks := [] } t).tasks = []) :
    w.drain arrive (.more n) = Work.take arrive { w with tasks := [] } t := by
  rw [Work.drain]
  simp only [h, h', List.filter_nil, List.append_nil]
  rw [Work.tasks_nil _ h', Work.drain_nil _ _ _ h']

/-- The first report, where it gives rise to none and the others stand. -/
theorem Work.drain_cons (arrive : Work → SceneId → Source → Work) (n : Steps) (w w' : Work) (t : Task) (rest : List Task)
    (h : w.tasks = t :: rest) (ht : Work.take arrive { w with tasks := [] } t = w') (h0 : w'.tasks = [])
    (hs : rest.all (fun x => x.stands w w') = true) :
    w.drain arrive (.more n) = Work.drain arrive n { w' with tasks := rest } := by
  rw [Work.drain]
  simp only [h]
  have e : rest.filter (fun x => x.stands w (Work.take arrive { w with tasks := [] } t)) = rest := by
    rw [ht]; exact List.filter_eq_self.2 (by simpa using hs)
  rw [e, ht, h0, List.nil_append]

/-- An event with no report and no scan that finds anything. -/
theorem Work.settle_idle (w : Work) (ht : w.tasks = []) (hs : w.owed = true → w.mayScan = true → w.scanStep = none)
    (hz : w.triedOnce = []) : w.settle = { w with owed := false } := by
  obtain ⟨n, hn⟩ := eventBound_more
  rw [Work.settle, hn, Work.settleWith, Work.drain_nil _ _ _ ht]
  have hscan : (if w.owed && w.mayScan then w.scan eventBound else w) = w := by
    split
    · next hb =>
      simp only [Bool.and_eq_true] at hb
      rw [hn, Work.scan, hs hb.1 hb.2]
    · rfl
  rw [hscan]
  have hz' : Work.triedOnce { w with owed := false } = [] := hz
  simp [hz']

/-- With an empty queue a scan finds nothing. -/
theorem Work.settle_calm (w : Work) (ht : w.tasks = []) (hq : w.sched.queue = []) :
    w.settle = { w with owed := false } :=
  Work.settle_idle w ht (fun _ _ => by simp [Work.scanStep, hq]) (by simp [Work.triedOnce, hq])

/-- An event whose part leaves no report and an empty queue. -/
theorem State.run_calm (s : State) (f : Work → Work) (ht : (f s.work).tasks = []) (hq : (f s.work).sched.queue = [])
    : s.run f = s.commit (f s.work) := by
  unfold State.run
  rw [Work.settle_calm _ ht hq]
  rfl

/-- An event that leaves the blocks of the Scheduler as they stood. -/
theorem State.commit_work (s : State) : s.commit s.work = s := rfl

/-- The working record of an event with its notices gives back a state with them placed. -/
theorem State.commit_eq (s : State) (w : Work) : s.commit w =
    { s with sched := w.sched, light := w.light, motion := w.motion, mixer := w.mixer,
             link := (w.sealed ++ w.notices).foldl Link.place s.link } := rfl

/-! Blocks an event of the Scheduler never writes. -/

@[simp] theorem State.run_clock (s : State) (f : Work → Work) : (s.run f).clock = s.clock := rfl
@[simp] theorem State.run_owner (s : State) (f : Work → Work) : (s.run f).owner = s.owner := rfl
@[simp] theorem State.run_inputs (s : State) (f : Work → Work) : (s.run f).inputs = s.inputs := rfl
@[simp] theorem State.run_cues (s : State) (f : Work → Work) : (s.run f).cues = s.cues := rfl
@[simp] theorem State.run_supervisor (s : State) (f : Work → Work) : (s.run f).supervisor = s.supervisor := rfl
@[simp] theorem State.run_store (s : State) (f : Work → Work) : (s.run f).store = s.store := rfl
@[simp] theorem State.run_delivery (s : State) (f : Work → Work) : (s.run f).delivery = s.delivery := rfl
@[simp] theorem State.run_pending (s : State) (f : Work → Work) : (s.run f).pending = s.pending := rfl

/-! Blocks the end of an event never writes. -/

theorem State.arbitrate_cases (s : State) : s.arbitrate = s ∨ s.arbitrate = { s with store := s.store.begin s.now } ∨
    s.arbitrate = { s with mixer := s.mixer.issueRead s.now } := by
  unfold State.arbitrate
  split
  · exact .inl rfl
  · split
    · exact .inr (.inl rfl)
    · exact .inr (.inr rfl)

@[simp] theorem State.settled_clock (s : State) : s.settled.clock = s.clock := by
  unfold State.settled; rcases s.arbitrate_cases with h | h | h <;> rw [h]
@[simp] theorem State.settled_owner (s : State) : s.settled.owner = s.owner := by
  unfold State.settled; rcases s.arbitrate_cases with h | h | h <;> rw [h]
@[simp] theorem State.settled_inputs (s : State) : s.settled.inputs = s.inputs := by
  unfold State.settled; rcases s.arbitrate_cases with h | h | h <;> rw [h]
@[simp] theorem State.settled_sched (s : State) : s.settled.sched = s.sched := by
  unfold State.settled; rcases s.arbitrate_cases with h | h | h <;> rw [h]
@[simp] theorem State.settled_cues (s : State) : s.settled.cues = s.cues := by
  unfold State.settled; rcases s.arbitrate_cases with h | h | h <;> rw [h]
@[simp] theorem State.settled_light (s : State) : s.settled.light = s.light := by
  unfold State.settled; rcases s.arbitrate_cases with h | h | h <;> rw [h]
@[simp] theorem State.settled_motion (s : State) : s.settled.motion = s.motion := by
  unfold State.settled; rcases s.arbitrate_cases with h | h | h <;> rw [h]
@[simp] theorem State.settled_supervisor (s : State) : s.settled.supervisor = s.supervisor := by
  unfold State.settled; rcases s.arbitrate_cases with h | h | h <;> rw [h]
@[simp] theorem State.settled_delivery (s : State) : s.settled.delivery = s.delivery := by
  unfold State.settled; rcases s.arbitrate_cases with h | h | h <;> rw [h]
@[simp] theorem State.settled_pending (s : State) : s.settled.pending = s.pending := by
  unfold State.settled; rcases s.arbitrate_cases with h | h | h <;> rw [h]

/-- Taking the flash changes no byte of the clip region. -/
@[simp] theorem Store.begin_clips (t : Store) (now : Stamp) : (t.begin now).clips = t.clips := by
  unfold Store.begin
  split
  · rfl
  · next u _ _ => cases u <;> rfl

@[simp] theorem State.settled_clips (s : State) : s.settled.store.clips = s.store.clips := by
  unfold State.settled; rcases s.arbitrate_cases with h | h | h <;> rw [h]
  exact Store.begin_clips _ _

end Sys2Proof.Machine
end

