-- ==== Sys2Proof/Tests/Slice0.lean ====
section
/-! SUPPORT. Tests of the model's own: ill-formed commands that WellFormed refuses, small tests whose expected values
are the manual's worked examples, tables and rules (named at each), and for every statement with hypotheses a state
and operands that meet them. -/

namespace Sys2Proof.Tests

open Sys2Proof.Machine

/-! States the tests start from. -/

/-- A head of a frame with a right length on the show link. -/
def hs : FrameHead := ⟨.showLink, true⟩

/-- The same on the service link. -/
def hv : FrameHead := ⟨.serviceLink, true⟩

/-- A part that has loaded a show: the show is CLOSED and the show link holds control. -/
def base : State := { State.reset with store := { State.reset.store with load := .loaded, held := none } }

/-- A part in a mode. -/
def inMode (m : Mode) : State := { base with sched := { base.sched with mode := m } }

/-- A part under service control. -/
def served : State :=
  { inMode .service with owner := { owner := .serviceLink, take := none, silence := some 60000 } }

/-- A small scene record: it claims channel 1 and plays list 1 once. -/
def record : SceneRecord :=
  { enabled := true, priority := 5, lamps := [0], axes := [], zones := [],
    tracks := [{ list := 0, mode := .once, passes := 0 }],
    mask := { axes := true, lamps := true, narration := true, audience := true, guarded := true }, audience := none,
    readyLine := some 0, waitLimit := 10, maxRun := 60, release := 500, rest := 2, followOn := none }

/-- All five categories satisfied and the overall result. -/
def allReady : Readiness :=
  { axes := true, lamps := true, narration := true, audience := true, guarded := true, overall := true }

/-- A scene that holds the small record, in a state. -/
def scene (st : SceneState) : Scene := { Scene.start (some record) with state := st, ready := allReady }

/-- A part whose scene 1 is this one. -/
def withScene (s : State) (x : Scene) : State :=
  { s with sched := { s.sched with scenes := s.sched.scenes.set 0 x } }

/-- A part whose cue list 1 is this one. -/
def withCues (s : State) (q : List Cue) : State := { s with cues := s.cues.set 0 q }

/-- A part whose axis 1 is this one. -/
def withAxis (s : State) (x : AxisRec) : State :=
  { s with motion := { s.motion with axes := s.motion.axes.set 0 x } }

/-- A part whose input 1 is this one. -/
def withInput (s : State) (l : InputLine) : State := { s with inputs := { s.inputs with lines := s.inputs.lines.set 0 l } }

/-- A part whose sound zone 1 is this one. -/
def withZone (s : State) (z : SoundZoneState) : State :=
  { s with mixer := { s.mixer with zones := s.mixer.zones.set 0 z } }

/-- A part at a run time. -/
def atTime (s : State) (now : Stamp) : State := { s with clock := { s.clock with runTime := now } }

/-- What a test reads of an outcome: its next state, if it has one. -/
def after (o : Host.Outcome State Fault Refusal) : Option State := match o with
  | .next t => some t
  | _ => none

/-! When a request is let through. -/

theorem admits_of {s : State} {h : FrameHead} (e : (decide (s.store.load ≠ .loading) &&
    decide ((s.port h.port).pending = none) && decide (s.link.restarting = none) &&
    decide ((s.port h.port).replies.length < 3) && h.lengthOk && s.quiet) = true) : s.Admits h := by
  simp only [Bool.and_eq_true, decide_eq_true_eq] at e
  exact ⟨e.1.1.1.1.1, e.1.1.1.1.2, e.1.1.1.2, e.1.1.2, e.1.2, e.2⟩

theorem base_admits : base.Admits hs := admits_of (by decide)
theorem base_owned : base.AdmitsOwned hs := ⟨base_admits, by decide⟩
theorem base_defines : base.AdmitsDefine hs := ⟨base_admits, by decide, by decide, by decide⟩
theorem served_admits : served.Admits hv := admits_of (by decide)
theorem served_service : served.AdmitsService hv := ⟨served_admits, by decide, by decide⟩
theorem served_owned : served.AdmitsOwned hv := ⟨served_admits, by decide⟩
theorem inMode_admits (m : Mode) : (inMode m).Admits hs := base_admits.casesOn fun a b c d e f => ⟨a, b, c, d, e, f⟩
theorem inMode_owned (m : Mode) : (inMode m).AdmitsOwned hs := ⟨inMode_admits m, rfl⟩

/-- A change of anything but the store, the links, the Mixer and the owner lets the same requests through. -/
theorem admits_as {s t : State} {h : FrameHead} (a : s.Admits h) (hl : t.link = s.link) (hm : t.mixer = s.mixer)
    (hs : t.store = s.store) : t.Admits h :=
  ⟨by rw [hs]; exact a.loaded, by unfold State.port; rw [hl]; exact a.free, by rw [hl]; exact a.staying,
    by unfold State.port; rw [hl]; exact a.room, a.length, by rw [State.quiet_congr hl hm hs]; exact a.quiet⟩

/-! Ill-formed commands. -/

theorem test_wf_unknownKind : Instr.wf (.unknownKind .showLink 0x01#8) = false := by decide
theorem test_wf_queryQueue : Instr.wf (.queryQueue hs 256) = false := by decide
theorem test_wf_homeAxes : Instr.wf (.homeAxes hs 65536) = false := by decide
theorem test_wf_writeCues : Instr.wf (.writeCues hs 256 0 1 []) = false := by decide
theorem test_wf_writeClip : Instr.wf (.writeClip hs 0 0 240 (List.replicate 250 0#8)) = false := by decide +kernel
theorem test_wf_acknowledge : Instr.wf (.acknowledgeFaults hs 1 (List.replicate 250 (1, 1))) = false := by decide +kernel
theorem test_wf_cueIssue_zero : Instr.wf (.cueIssue 0 0) = false := by decide
theorem test_wf_cueIssue_five : Instr.wf (.cueIssue 0 5) = false := by decide
theorem test_wf_defineInput : Instr.wf (.defineInput hs ⟨1, 1, 0, 20, 0, 0, 0, 65536, 0⟩) = false := by decide
theorem test_wf_defineScene : Instr.wf (.defineScene hs
    { scene := 1, trackCount := 2, enabled := 1, priority := 1, lamps := 0, axes := 0, zones := 0, mask := 0,
      audience := 0, readyLine := 0, waitLimit := 0, maxRun := 1, release := 0, rest := 0, followOn := 0,
      tracks := [⟨1, 1, 0⟩] }) = false := by decide
theorem test_wf_defineAxis : Instr.wf (.defineAxis hs ⟨1, 1, 65536, 0, 0, 0, 0, 0, 0, 0, 0, 0, 0, 0⟩) = false := by decide
theorem test_wf_powerOn : Instr.wf (.powerOn .b115200
    (some { image := FlashImage.erased, clips := [(5, 0#8), (4, 1#8)] })) = false := by decide
theorem test_wf_powerOn_region : Instr.wf (.powerOn .b115200
    (some { image := FlashImage.erased, clips := [(67108864, 0#8)] })) = false := by decide
theorem test_wf_good : Instr.wf (.homeAxes hs 4095) = true := by decide

/-! The manual's worked numbers. -/

/-- Section 5.4, "A fade in a derated group". -/
theorem test_fade_in_derated_group : fadeValue 200 900 1250 3000 = 492 ∧ scaledLevel false 492 800 75 = 295 ∧
    outputValue .linear 0 295 = 1208 ∧ outputValue .square 0 295 = 356 ∧ outputValue .square 400 295 = 400 ∧
    scaledLevel false 900 800 75 = 540 ∧ outputValue .linear 0 540 = 2211 ∧ outputValue .square 400 540 = 1194 ∧
    outputValue .square 400 (scaledLevel true 900 800 75) = 0 := by decide

/-- Section 5.4, "A handover". -/
theorem test_handover_value : fadeValue 600 100 400 1000 = 400 ∧ fadeValue 600 100 1000 1000 = 100 := by decide

/-- Section 7.7, worked cases of the arithmetic. -/
theorem test_gain_and_mix : gain 12 = 16422 ∧ gain 24 = 8231 ∧
    saturate (mixTerm 10000 (gain 0) + mixTerm (-6000) (bedFactor 12 12)) = 8493 ∧
    saturate (mixTerm 32767 (gain 0) + mixTerm 20000 (bedFactor 0 0)) = 32767 := by decide

/-- An axis of max speed 2,000 with acceleration 2,000 and a CREEP guard of 200. -/
def carriage : AxisRec :=
  AxisRec.start { defaultAxis with enabled := true, maxSpeed := 2000, accel := 2000, creep := 200, guardAction := .creep }
    false false false

/-- R107: cruise 1,200; under HOT with derate 75 the limit is 900, with a CREEP guard of 200 it is 150. -/
theorem test_speed_limit : carriage.cruiseOf 60 = 1200 ∧
    carriage.limit { thermal := .hot, derate := 75, lineActive := false, latch := false } 1200 = 900 ∧
    { carriage with guardEffect := .creeping }.limit
      { thermal := .hot, derate := 75, lineActive := false, latch := false } 1200 = 150 := by decide

/-- R109: 3,000 steps at 1,000 steps/s take 3.5 s, and 400 steps 895 ms. -/
theorem test_move_times : Kin.towardMs (Kin.outset [] 0 3000) 3000 1000 2000 = 3500 ∧
    Kin.towardMs (Kin.outset [] 0 400) 400 1000 2000 = 895 := by decide +kernel

/-- Section 8.1's rack: H 60.0, C 75.0. A CRITICAL sensor stays so at 71.0 and falls to HOT at 70.0. -/
theorem test_rack_cools : nextThermal defaultSensor .critical 142 = .critical ∧
    nextThermal defaultSensor .critical 140 = .hot ∧ nextThermal defaultSensor .normal 120 = .hot ∧
    nextThermal defaultSensor .hot 110 = .normal := by decide

/-- R151: a trim of 511 shortens a second by 511 periods, one of -512 lengthens it by 512. -/
theorem test_trimmed_seconds : ((List.range 1000).map (msPeriods 511)).sum = 4095489 ∧
    ((List.range 1000).map (msPeriods (-512))).sum = 4096512 := by decide +kernel

/-- The CRC of section 10.1 over "123456789" is the polynomial's check value 29B1h. -/
theorem test_crc_check_value : crc16 [0x31#8, 0x32#8, 0x33#8, 0x34#8, 0x35#8, 0x36#8, 0x37#8, 0x38#8, 0x39#8] = 0x29B1#16 := by
  decide +kernel

/-- R153: run times are compared across the wrap. -/
theorem test_run_time_wraps : reached 5#32 (later 0xFFFFFFFF#32 6) = true ∧ elapsed 5#32 0xFFFFFFFF#32 = 6 := by decide

/-! Small tests of the commands: one step each. -/

/-- R1 and section 12.5: a debounce of 255 is stored as 250 with ADJUSTED. -/
theorem test_define_input_clamps :
    (after (exec (.defineInput hs ⟨3, 1, 0, 255, 0, 0, 0, 60, 0⟩) base)).map (fun t =>
      ((t.inputs.lines.get 2).profile.debounce, t.link.showPort.transmitter)) =
    some (250, .reply { kind := 0x90#8, code := .adjusted, body := .empty }) := by decide +kernel

/-- R163: a define request is refused WRONG_MODE while the show is OPEN. -/
theorem test_define_needs_closed :
    (after (exec (.defineInput hs ⟨3, 1, 0, 20, 0, 0, 0, 60, 0⟩) (inMode .opened))).map (·.link.showPort.transmitter) =
    some (.reply { kind := 0x90#8, code := .wrongMode, body := .empty }) := by decide +kernel

/-- R163: the service link without control is answered NOT_OWNER. -/
theorem test_define_needs_control :
    (after (exec (.defineZone hv 1 5000) base)).map (·.link.servicePort.transmitter) =
    some (.reply { kind := 0x91#8, code := .notOwner, body := .empty }) := by decide +kernel

/-- R161: a request is answered BUSY while another is pending on its link. -/
theorem test_pending_is_busy :
    (after (exec (.queryZones hs) (base.modPort .showLink fun x => { x with pending := some .storeShow }))).map
      (·.link.showPort.transmitter) = some (.reply { kind := 0x82#8, code := .busy, body := .empty }) := by decide +kernel

/-- R163, check 2: a body of a wrong length is BAD_BODY. -/
theorem test_bad_length :
    (after (exec (.queryZones ⟨.showLink, false⟩) base)).map (·.link.showPort.transmitter) =
    some (.reply { kind := 0x82#8, code := .badBody, body := .empty }) := by decide +kernel

/-- R64: flags that a kind gives no meaning are dropped. -/
theorem test_cue_flags : cueOf ⟨100#16, 5#8, 7#8, 9#8, 0, 0, 0, 0, 0⟩ =
    some ({ delta := 100, wait := false, cut := false, occupiedOnly := false, act := .mark 9 }, false) := by decide

/-- R63: an AXIS cue of axis 2 at 60 percent to 3,000, with WAIT. -/
theorem test_axis_cue_record : cueOf ⟨0#16, 2#8, 1#8, 2#8, 60#8, 0xB8#8, 0x0B#8, 0, 0⟩ =
    some ({ delta := 0, wait := true, cut := false, occupiedOnly := false, act := .axis 1 60 3000 }, false) := by decide

/-- Section 4.3: with 4,090 records in use 6 are free. -/
theorem test_cues_free : cuesFree (Table.ofFn fun i : ListId =>
    List.replicate (if i.val < 7 then 512 else if i.val = 7 then 506 else 0) blankCue) = 6 := by decide +kernel

/-- R54: OPEN SHOW opens a CLOSED show. -/
theorem test_open_show : (after (exec (.openShow hs) base)).map (·.sched.mode) = some .opened := by decide +kernel

/-- R42, R45: a scene that is ready starts in context 1. -/
theorem test_start_scene :
    (after (exec (.startScene hs 1) (withCues (withScene (inMode .opened) (scene .idle))
      [{ blankCue with delta := 100 }]))).map (fun t => ((t.sched.scenes.get 0).state, (t.sched.scenes.get 0).context)) =
    some (.running, some 0) := by decide +kernel

/-- R39: while the show is CLOSED a START SCENE is refused WRONG_MODE. -/
theorem test_start_scene_closed :
    (after (exec (.startScene hs 1) (withScene base (scene .idle)))).map (·.link.showPort.transmitter) =
    some (.reply { kind := 0xA3#8, code := .wrongMode, body := .empty }) := by decide +kernel

/-- R93: at the emergency stop every channel stands at its safe level, 1000 in an empty show. -/
theorem test_estop_lighting :
    (after (exec .estopOnLighting { base with delivery := { base.delivery with stopLighting := [.on] } })).map
      (fun t => (t.light.snapshot.channels.get 47).output) = some 4095 := by decide +kernel

/-- R104, R163: HOME AXES in STANDSTILL is answered ESTOP_ACTIVE. -/
theorem test_home_standstill :
    (after (exec (.homeAxes hs 1) (inMode .standstill))).map (·.link.showPort.transmitter) =
    some (.reply { kind := 0xAD#8, code := .estopActive, body := .empty }) := by decide +kernel

/-- R101: the default switches are active LOW, so a LOW line is active after its filter; home ends the run (R106). -/
theorem test_home_switch :
    (after (exec (.switchFilterExpiry 0 .home) (withAxis base { carriage with
      state := .homing, defn := { carriage.defn with home := 70 },
      home := { line := false, active := false, timer := some 0, seeded := true } }))).map
      (fun t => ((t.motion.axes.get 0).state, (t.motion.axes.get 0).position)) = some (.idle, some 70) := by
  decide +kernel

/-- R124: a clip of 257 samples takes two blocks from block 0. -/
theorem test_begin_clip :
    (after (exec (.beginClip hs 7 257) base)).map (fun t => (t.mixer.clips.get 7, freeBlocks t.mixer.clips)) =
    some (.writing 0 257 0, 131070) := by decide +kernel

/-- R128: a read unanswered after 2 ms sets the clip store fault latch. -/
theorem test_read_timeout :
    (after (exec .clipReadTimeout (atTime { base with mixer := { base.mixer with
      read := some { issued := 0, target := .slot 0 (some 0), block := 0 } } } 2))).map
      (fun t => (t.mixer.latch, t.mixer.answering)) = some (true, false) := by decide +kernel

/-- R142: a reading of +150.5 °C is INVALID and makes the sensor CRITICAL. -/
theorem test_invalid_reading :
    (after (exec (.sensorReading 1 301) { base with supervisor := { base.supervisor with
      toRead := [1], sensors := base.supervisor.sensors.set 1 (SensorState.start { defaultSensor with fitted := true }) } })).map
      (fun t => ((t.supervisor.sensors.get 1).thermal, (t.supervisor.sensors.get 1).faultLatch)) =
    some (.critical, true) := by decide +kernel

/-- Section 9.1's example: a trim of -600 is clamped to -512. -/
theorem test_set_trim : (after (exec (.setTrim hs (-600)) base)).map (·.clock.trimPending) = some (-512) := by
  decide +kernel

/-- R154: at midnight the weekday advances and wraps from 7 to 1. -/
theorem test_midnight :
    (after (exec .clockMillisecond { base with clock := { base.clock with
      phase := 999, time := some { seconds := 86399, weekday := 6 } } })).map (·.clock.time) =
    some (some { seconds := 0, weekday := 0 }) := by decide +kernel

/-- R167: with every context free a TAKE CONTROL is granted at once and the mode is SERVICE. -/
theorem test_take_control :
    (after (exec (.takeControl true 0) base)).map (fun t => (t.owner.owner, t.sched.mode, t.sched.serviceReturn)) =
    some (.serviceLink, .service, .closed) := by decide +kernel

/-- R168: GIVE BACK restores the mode kept at the take. -/
theorem test_give_back :
    (after (exec (.giveBack true) served)).map (fun t => (t.owner.owner, t.sched.mode)) =
    some (.showLink, .closed) := by decide +kernel

/-- Sections 10.1 and 12.2: the bytes A5 01 07 and their check are a QUERY LEVELS. -/
theorem test_bytes_make_a_request :
    ((frameBytes 0x07#8 []).foldl (fun o b => o.bind fun s => after (exec (.byteArrival .showLink b true) s))
      (some base)).map (fun t => match t.link.showPort.transmitter with | .reply r => r.kind | _ => 0#8) =
    some 0x87#8 := by decide +kernel

/-- R174, R175: an erased image leaves an empty show with the reason LENGTH. -/
theorem test_load_erased :
    (after (exec (.loadEnd false) State.reset)).map (fun t => (t.store.load, t.link.showPort.transmitter)) =
    some (.empty, .notice ⟨0, .startup false .powerOn (some .length) 0⟩ 0) := by decide +kernel

/-- No word of the table spells a command. -/
theorem test_no_word_spells_a_command : decodeTableWord 8 0x07 = none ∧
    State.reset.withFetchWord 8 0x07 = State.reset := ⟨rfl, rfl⟩

/-! States and operands that meet the hypotheses of the statements, one theorem for each. -/

theorem witness_StepTakesFrontCommand :
    ({ base with pending := [.probeDue, .takeGrant] } : State).pending = .probeDue :: [.takeGrant] := rfl
theorem witness_CommandsKeepQueue : exec .probeDue base = .next base := rfl
theorem witness_StepsKeepClipRegionCanonical :
    Memory.wf State.reset.store.clips = true ∧ step State.reset = .next State.reset := ⟨rfl, rfl⟩
theorem witness_StepsKeepLinkAndClockBounds : (State.reset.link.bounded = true ∧ step State.reset = .next State.reset) ∧
    State.reset.clock.bounded = true ∧ step State.reset = .next State.reset := ⟨⟨rfl, rfl⟩, rfl, rfl⟩
theorem witness_StepsLeaveQuietPart : State.reset.quiet = true ∧ step State.reset = .next State.reset := ⟨rfl, rfl⟩
theorem witness_OnlyClipWritesChangeClipRegion : ∃ t,
    exec (.powerOn .b115200 (some { image := FlashImage.erased, clips := [(0, 1#8)] })) base = .next t ∧
      readByte t.store.clips ≠ readByte base.store.clips :=
  ⟨_, rfl, fun e => absurd (congrFun e 0) (by decide)⟩

/-- A part with every latch of the Supervisor and an input's stuck latch set, and a press counted. -/
def latched : State := withInput { base with supervisor := { base.supervisor with
    sensors := .fill 4 { SensorState.start defaultSensor with faultLatch := true, hotSeen := true, criticalSeen := true },
    lampLines := .fill 6 { filter := Filter.start false, latch := true },
    axisLines := .fill 3 { filter := Filter.start false, latch := true } } }
  { InputLine.start defaultInput false with stuckLatch := true, count := 1 }

theorem witness_OnlyAcknowledgementsClearLatches : exec .probeDue latched = .next latched ∧
    isStartUp .probeDue = false ∧ (latched.supervisor.sensors.get 3).faultLatch = true ∧
    (latched.supervisor.sensors.get 3).hotSeen = true ∧ (latched.supervisor.sensors.get 3).criticalSeen = true ∧
    (latched.supervisor.lampLines.get 5).latch = true ∧ (latched.supervisor.axisLines.get 2).latch = true ∧
    (latched.inputs.lines.get 0).stuckLatch = true := by
  refine ⟨rfl, ?_⟩; decide +kernel
theorem witness_PressCountsNeverDecrease : exec .probeDue latched = .next latched ∧ isStartUp .probeDue = false ∧
    (latched.inputs.lines.get 0).count = 1 := ⟨rfl, rfl, rfl⟩
theorem witness_OwnerAndTimeChangeByTheirCommands :
    (∃ t, exec (.takeControl true 0) base = .next t ∧ t.owner.owner ≠ base.owner.owner) ∧
    ∃ t, exec (.setTime hs 86399 7) base = .next t ∧ base.clock.time = none ∧ t.clock.time ≠ none := by
  constructor
  · cases h : exec (.takeControl true 0) base with
    | next t =>
      refine ⟨t, rfl, ?_⟩
      have := test_take_control
      rw [h] at this
      simp only [after, Option.map_some, Option.some.injEq, Prod.mk.injEq] at this
      rw [this.1]; decide
    | fault r => have := test_take_control; rw [h] at this; simp [after] at this
    | refused r => have := test_take_control; rw [h] at this; simp [after] at this
  · have e : (after (exec (.setTime hs 86399 7) base)).map (·.clock.time) = some (some { seconds := 86399, weekday := 6 }) := by
      decide +kernel
    cases h : exec (.setTime hs 86399 7) base with
    | next t =>
      refine ⟨t, rfl, rfl, ?_⟩
      rw [h] at e
      simp only [after, Option.map_some, Option.some.injEq] at e
      rw [e]; simp
    | fault r => rw [h] at e; simp [after] at e
    | refused r => rw [h] at e; simp [after] at e

theorem witness_FadeValueIsNearest : (3000 ≤ 3000) ∧ 2999 < 3000 ∧ 200 ≤ 900 ∧ 100 ≤ 600 := by decide
theorem witness_ScaledLevelIsNearest : 1000 ≤ 1000 ∧ 100 ≤ 100 := by decide
theorem witness_OutputValueFollowsCurveAndFloor : 400 ≤ 400 ∧ 1000 * 4095 ≤ 1000 * 4095 + 500 ∧
    1000 * 4095 + 500 < 1000 * (4095 + 1) ∧ 1000000 * 4095 ≤ 1000 * 1000 * 4095 + 500000 ∧
    1000 * 1000 * 4095 + 500000 < 1000000 * (4095 + 1) := by decide
theorem witness_SecondTakesTrimmedPeriods : (-512 : Int) ≤ -512 ∧ (511 : Int) ≤ 511 := by decide
theorem witness_CueFlagsKeptByKind :
    (∃ q, cueOf ⟨0#16, 2#8, 1#8, 1#8, 60#8, 0, 0, 0, 0⟩ = some q) ∧ (∃ q, cueOf ⟨0#16, 3#8, 6#8, 4#8, 0, 0, 0, 0, 0⟩ = some q) ∧
    ∃ q, cueOf ⟨0xFFFF#16, 5#8, 7#8, 0, 0, 0, 0, 0, 0⟩ = some q := ⟨⟨_, rfl⟩, ⟨_, rfl⟩, ⟨_, rfl⟩⟩
theorem witness_GainAndMixAreNearest : 80 ≤ 80 ∧ (-32768 : Int) ≤ -32768 ∧ (-32768 : Int) ≤ 32767 ∧ (0 : Int) ≤ 0 := by decide
theorem witness_PowerOnStartsLoading : State.reset.store.held ≠ some .clipWrite := by decide
theorem witness_LoadEndMakesWorkingDefinitions :
    (State.reset.store.load = .loading ∧ elapsed (atTime State.reset 1500).now 0 ≤ 1500 ∧ (atTime State.reset 1500).quiet = true) ∧
    1500 ≤ elapsed (atTime State.reset 1500).now 0 := by decide

/-- A part whose show link receiver stands so. -/
def receiving (r : Receiver) : State := base.modPort .showLink fun x => { x with receiver := r }

theorem witness_ReceiverTakesWholeFramesOnly :
    ((receiving .hunting).quiet = true ∧ ((receiving .hunting).port .showLink).receiver = .hunting) ∧
    ((receiving (.collecting [250#8] 25)).quiet = true ∧ (250#8).toNat ≤ 250 ∧ 0 + 1 < (250#8).toNat + 2) ∧
    reached (atTime (receiving (.collecting [] 25)) 25).now 25 = true ∧ (base.port .showLink).replies.length < 3 ∧
    isRequestKind .showLink (0x38#8).toNat = false := by decide
theorem witness_ReceiverTakesWholeFramesOnly_admits : base.Admits { port := .showLink, lengthOk := true } := base_admits
theorem witness_FrameBytesAreCollectedWhole : (List.replicate 249 0#8).length ≤ 249 := by decide +kernel

/-- A part whose show link is sending a notice, and these replies and notices wait. -/
def sending (rs : List Reply) (ns : List Notice) : State := { base with link := { base.link with
  outbox := ns, showPort := { base.link.showPort with
    replies := rs, transmitter := .notice ⟨0, .homed 0 0⟩ 0 } } }

/-- A part whose RESTART has been accepted and whose reply is being sent. -/
def restarting : State := { base with link := { base.link with
  restarting := some .showLink, showPort := { base.link.showPort with
    transmitter := .reply { kind := 0xAE#8, code := .done, body := .restartTaken } } } }

theorem witness_TransmitterPrefersRepliesAndRestarts :
    ((sending [⟨0x81#8, .busy, .empty⟩] []).quiet = true ∧ ((sending [] []).port .showLink).transmitter ≠ .idle ∧
      restartSent (sending [] []).link .showLink = false ∧ (sending [] [⟨0, .homed 0 0⟩]).quiet = true) ∧
    base.store.job = none ∧ restarting.quiet = true ∧ restarting.link.restarting = some .showLink ∧
    (restarting.port .showLink).replies.length < 3 ∧ restartSent restarting.link .showLink = true := by decide
theorem witness_TransmitterPrefersRepliesAndRestarts_owned : base.AdmitsOwned hs := base_owned
theorem witness_StatusAloneIsAnsweredWhileLoading :
    (State.reset.port .showLink).pending = none ∧ State.reset.link.restarting = none ∧
    (State.reset.port .showLink).replies.length < 3 ∧ hs.lengthOk = true ∧ State.reset.quiet = true ∧
    State.reset.store.load = .loading ∧ requestOf (.queryZones hs) = some (hs, 0x02) ∧
    isRequestKind .showLink (0x01#8).toNat = true ∧ isRequestKind .showLink (0x32#8).toNat = true ∧
    isRequestKind .serviceLink (0x38#8).toNat = true := by decide
/-- For each mode a part, and for each refusal a request, that meet its hypotheses. -/
theorem witness_StatusAloneIsAnsweredWhileLoading_refusals :
    (∀ m, (inMode m).quiet = true ∧ ((inMode m).port .showLink).replies.length < 3 ∧ (inMode m).store.load ≠ .loading ∧
      ((inMode m).port .showLink).pending = none ∧ (inMode m).link.restarting = none ∧ (inMode m).sched.mode = m ∧
      (inMode m).owner.owner = hs.port ∧ (inMode m).owner.owner ≠ hv.port ∧
      ((inMode m).port .serviceLink).pending = none ∧ ((inMode m).port .serviceLink).replies.length < 3) ∧
    requestOf (.defineZone hs 1 0) = some (hs, 0x11) ∧ requestOf (.storeShow hs) = some (hs, 0x1E) ∧
    requestOf (.writeCues ⟨.showLink, false⟩ 1 0 1 []) = some (⟨.showLink, false⟩, 0x14) ∧
    requestOf (.openShow hs) = some (hs, 0x20) ∧ requestOf (.setMaster hs 1 0) = some (hs, 0x2B) ∧
    requestOf (.homeAxes hs 1) = some (hs, 0x2D) ∧ requestOf (.restart hv) = some (hv, 0x2E) ∧
    requestOf (.takeControl true 0) = some (hv, 0x38) ∧ requestOf (.giveBack true) = some (hv, 0x39) ∧
    requestOf (.resumeShow hs) = some (hs, 0x22) ∧ requestOf (.startScene hs (unitNo (63 : SceneId))) = some (hs, 0x23) ∧
    requestOf (.testLevel hs 1 1 none) = some (hs, 0x30) ∧ requestOf (.playClip hs 1 7 0) = some (hs, 0x32) ∧
    { base.store with job := some { port := .showLink, copy := emptyShow, accepted := 0 } }.job ≠ none ∧
    ({ base.owner with take := some .wait }.take ≠ none) ∧ { base.supervisor.estop with active := true }.active = true :=
  ⟨fun m => ⟨(inMode_admits m).quiet, (inMode_admits m).room, (inMode_admits m).loaded, rfl, rfl, rfl, rfl, by simp [inMode, hv]; decide, rfl,
      (inMode_admits m).room⟩, rfl, rfl, rfl,
    rfl, rfl, rfl, rfl, rfl, rfl, rfl, rfl, rfl, rfl, by decide, by decide, rfl⟩

/-- A part with QUERY HEALTH pending. -/
def gathering (own : SupervisorHealth) (stuck travel : Option (List Bool)) : State :=
  base.modPort .showLink fun x => { x with pending := some (.health own stuck travel none) }

/-- A part with scene 1 RUNNING in context 1. -/
def running : State :=
  let s := withCues (withScene (inMode .opened) { scene .running with context := some 0 }) [{ blankCue with delta := 100 }, { blankCue with delta := 100 }]
  { s with sched := { s.sched with contexts := s.sched.contexts.set 0 (some
      { scene := 0, journal := [], deadline := some 60000, returnLimit := none, serial := 1,
        tracks := [{ defn := { list := 0, mode := .once, passes := 0 }, pass := 1, phase := .playing 0 0 0 100 },
                   { defn := { list := 0, mode := .once, passes := 0 }, pass := 1, phase := .playing 1 100 0 100 }] }) } }

theorem running_admits : running.Admits hs := admits_of (by decide +kernel)
theorem running_owned : running.AdmitsOwned hs := ⟨running_admits, rfl⟩

theorem witness_QueriesReportAndChangeNothing : running.Admits hs ∧
    (∃ r, (running.sched.scenes.get 0).record = some r) ∧ (running.sched.scenes.get 63).record = none ∧
    running.sched.contexts.get 7 = none ∧ (∃ x, running.sched.contexts.get 0 = some x) ∧
    (1 ≤ 2 ∧ 2 ≤ 24 ∧ 0 + 2 ≤ (running.cues.get 0).length) ∧
    (gathering base.ownHealth none none).quiet = true ∧
    ((gathering base.ownHealth (some []) (some [])).port .showLink).pending =
      some (.health base.ownHealth (some []) (some []) none) :=
  ⟨running_admits, ⟨_, rfl⟩, rfl, rfl, ⟨_, rfl⟩, by decide, by decide, rfl⟩

/-- A profile of a PRESENCE input of zone 1 and of a BUTTON. -/
def presence : InputProfile := { defaultInput with role := .presence, zone := some 0 }
def button (j : Option SceneId) : InputProfile := { defaultInput with role := .button, scene := j, notify := true }

theorem witness_InputsAndZonesAreDefined : base.AdmitsDefine hs ∧ base.AdmitsOwned hs ∧
    (unitNo (15 : InputId) = 16 ∧ 0 ≤ 1 ∧ unitNo (7 : FloorZone) = 8 ∧
      optUnitNo (none : Option SceneId) = 0 ∧ optUnitNo (some (63 : SceneId)) = 64) ∧
    (∀ z, memberZone (base.inputs.lines.get 15).profile ≠ some z) ∧
    memberZone ((withInput base (InputLine.start presence false)).inputs.lines.get 0).profile = some 0 ∧
    ∀ j, j ≠ 0 → memberZone ((withInput base (InputLine.start presence false)).inputs.lines.get j).profile ≠ some 0 :=
  ⟨base_defines, base_owned, by decide, by decide, rfl, by decide⟩

/-- An input whose line is HIGH and whose debounce has come. -/
def settling (p : InputProfile) (seeded : Bool) : InputLine :=
  { InputLine.start p true with debounce := some 0, seeded := seeded }

theorem witness_InputLevelsAreDebounced :
    (withInput base (settling (button none) true)).quiet = true ∧ (settling (button none) true).high ≠ false ∧
    (button none).role ≠ .unused ∧ (settling (button none) false).debounce = some 0 ∧
    (InputLine.start defaultInput true).profile.role = .unused ∧
    expired (withInput base (settling (button none) false)).now (settling (button none) false).debounce = true ∧
    (settling (button none) false).seeded = false := by decide
theorem witness_PressesCountAndHeldButtonsStick :
    ((withInput base (settling (button (some 0)) true)).quiet = true ∧
      expired (withInput base (settling (button (some 0)) true)).now (settling (button (some 0)) true).debounce = true ∧
      (settling (button (some 0)) true).seeded = true ∧ (settling (button (some 0)) true).stuckRun = false ∧
      sense (button (some 0)).polarity (settling (button (some 0)) true).high = true ∧ base.sched.mode = .closed ∧
      base.sched.suspended = false ∧ base.sched.queue = [] ∧ (button (some 0)).notify = true) ∧
    reached (atTime base 60000).now (later 0 (1000 * (button none).stuckLimit)) = true := by decide

/-- A part whose floor zone 1 is in a state, with a hold of 30,000 ms that ends at 0. -/
def zoned (s : State) (st : ZoneState) (hold : Nat) : State := { s with inputs := { s.inputs with
  zones := s.inputs.zones.set 0 { hold := hold, state := st, expiry := some 0 } } }

theorem witness_FloorZonesFollowTheirMembers :
    let s := zoned (withInput base (settling presence true)) .clear 30000
    let t := zoned (withInput base { settling presence true with high := false }) .occupied 30000
    let u := zoned base .holding 30000
    (s.quiet = true ∧ expired s.now (s.inputs.lines.get 0).debounce = true ∧
      sense presence.polarity (s.inputs.lines.get 0).high = true ∧ (s.inputs.zones.get 0).state ≠ .occupied) ∧
    (sense presence.polarity (t.inputs.lines.get 0).high = false ∧ (t.inputs.zones.get 0).state = .occupied ∧
      (∀ j, j ≠ 0 → memberZone (t.inputs.lines.get j).profile = some 0 → (t.inputs.lines.get j).active = false) ∧
      (t.inputs.zones.get 0).hold ≠ 0) ∧
    u.quiet = true ∧ (u.inputs.zones.get 0).expiry = some 0 ∧ reached u.now 0 = true := by decide +kernel

/-- A part with these latches of an acknowledgement pending on the show link. -/
def acknowledging (s : State) (kind : LatchKind) (unit : Nat) : State :=
  s.modPort .showLink fun x => { x with pending := some (.acknowledge [{ kind := kind, unit := unit, outcome := none }]) }

theorem witness_AcknowledgementsClearWhatIsGone :
    latched.AdmitsOwned hs ∧ latched.sched.queue = [] ∧ (latched.supervisor.lampLines.get 5).latch = true ∧
    (latched.supervisor.lampLines.get 5).filter.active = false ∧ (32 < 33 ∧ ∃ e ∈ [((9 : Nat), (0 : Nat))], e.1 = 0 ∨ 8 < e.1) ∧
    (acknowledging latched .stuckInput 1).quiet = true ∧
    ((acknowledging latched .stuckInput 1).port .showLink).pending =
      some (.acknowledge [{ kind := .stuckInput, unit := unitNo (0 : InputId), outcome := none }]) ∧
    (∀ low : Bool, let s := acknowledging (withAxis base { carriage with
        travelLatch := true, state := .faulted, low := { Filter.start false with active := low } }) .axisTravel 1
      s.quiet = true ∧ (s.motion.axes.get 0).low.active = low ∧ (s.motion.axes.get 0).high.active = false ∧
      (s.motion.axes.get 0).driverCause = false) ∧
    (base.motion.axes.get 0).travelLatch = false ∧
    (∀ answering : Bool, (acknowledging { base with mixer := { base.mixer with latch := true, answering := answering } }
      .clipStore 1).quiet = true) ∧ base.mixer.latch = false :=
  ⟨⟨admits_as base_admits rfl rfl rfl, rfl⟩, rfl, rfl, rfl, by decide, by decide, rfl, by decide +kernel, rfl, by decide,
    rfl⟩

/-- A DEFINE SCENE body of scene 1 that removes it. -/
def removing : SceneBody :=
  { scene := 1, trackCount := 0, enabled := 0, priority := 0, lamps := 0, axes := 0, zones := 0, mask := 0, audience := 0,
    readyLine := 0, waitLimit := 0, maxRun := 0, release := 0, rest := 0, followOn := 0, tracks := [] }

/-- A DEFINE SCENE body of scene 1 with one track. -/
def defining : SceneBody :=
  { removing with trackCount := 1, enabled := 1, priority := 5, lamps := 1, mask := 31, readyLine := 1, waitLimit := 10,
                  maxRun := 60, release := 500, rest := 2, tracks := [⟨1, 1, 0⟩] }

theorem witness_DefinedSceneTakesItsRecord : base.AdmitsDefine hs ∧ base.sched.queue = [] ∧
    sceneOf removing = some (0, none, false) ∧ sceneOf defining = some (0, some record, false) ∧
    engaged (base.sched.scenes.get 0).state = false ∧
    sceneFails (withCues base [blankCue]).cues record = none ∧ sceneFails base.cues record = some (1, none) ∧
    ((withScene base (scene .queued)).sched.scenes.get 0).state = .queued :=
  ⟨base_defines, rfl, rfl, by decide +kernel, rfl, by decide, by decide, rfl⟩
theorem witness_CueListsAreSizedAndWritten : (withCues base [blankCue]).AdmitsDefine hs ∧
    listInUse (withCues base [blankCue]).sched.scenes 0 = false ∧
    (∀ lists, listBreaks (withCues base [blankCue]).sched.scenes lists 0 = none) ∧
    512 - ((withCues base [blankCue]).cues.get 0).length ≤ 4096 - cueCount (withCues base [blankCue]).cues ∧
    4096 - cueCount (Table.ofFn fun i : ListId => List.replicate (if 1 ≤ i.val ∧ i.val ≤ 8 then 512 else 0) blankCue) <
      1 - ((Table.ofFn fun i : ListId => List.replicate (if 1 ≤ i.val ∧ i.val ≤ 8 then 512 else 0) blankCue).get 0).length ∧
    [(⟨0, 5, 0, 0, 0, 0, 0, 0, 0⟩ : CueBody)].map cueOf = [(blankCue, false)].map some ∧
    0 + 1 ≤ ((withCues base [blankCue]).cues.get 0).length := by
  refine ⟨⟨admits_as base_admits rfl rfl rfl, rfl, .inl rfl, rfl⟩, by decide +kernel, ?_, by decide +kernel, by decide +kernel, rfl,
    by decide⟩
  intro lists
  have : ∀ i, (base.sched.scenes.get i).record = none := by decide +kernel
  show (units 64).findSome? _ = none
  rw [List.findSome?_eq_none_iff]
  intro i _
  show (match (base.sched.scenes.get i).record with | some r => _ | none => none) = none
  rw [this]

/-- A part with scene 1 QUEUED. -/
def queueing (s : State) : State :=
  let t := withScene s (scene .queued)
  { t with sched := { t.sched with queue := [{ scene := 0, source := .visitor 0, priority := 5, arrival := 0,
                                               expiry := 0, preempting := false }] } }

theorem witness_ScenesAreEnabledAndDisabled :
    (∀ st, (withScene base (scene st)).sched.queue = [] ∧ ((withScene base (scene st)).sched.scenes.get 0).state = st ∧
      ((withScene base (scene st)).sched.scenes.get 0).record = some record) ∧
    (withScene base (scene .off)).AdmitsOwned hs ∧ (queueing base).AdmitsOwned hs ∧
    (∃ e, (queueing base).sched.queue = [e] ∧ e.scene = 0) ∧ ((queueing base).sched.scenes.get 0).state = .queued := by
  refine ⟨fun st => ⟨rfl, ?_, ?_⟩, ⟨admits_as base_admits rfl rfl rfl, rfl⟩, ⟨admits_as base_admits rfl rfl rfl, rfl⟩,
    ⟨_, rfl, rfl⟩, rfl⟩ <;> cases st <;> rfl
theorem witness_ShowModeChangesWithItsNotice : (∀ m, (inMode m).sched.queue = [] ∧ (inMode m).sched.mode = m ∧
      (inMode m).AdmitsOwned hs ∧ (inMode m).quiet = true ∧ ∀ c, (inMode m).sched.contexts.get c = none) ∧
    (inMode .standstill).supervisor.estop.active = false ∧
    { inMode .closed with delivery := { base.delivery with stopScheduler := [.on] } }.delivery.stopScheduler = .on :: [] :=
  ⟨fun m => ⟨rfl, rfl, inMode_owned m, (inMode_admits m).quiet, by cases m <;> decide +kernel⟩, rfl, rfl⟩

theorem witness_RequestedScenesWaitOrStart :
    (∀ ready limit, let x := { scene .idle with ready := ready, record := some { record with waitLimit := limit } }
      let s := withCues (withScene (inMode .opened) x) [{ blankCue with delta := 1 }]
      s.Admits hs ∧ s.owner.owner = hs.port ∧ s.owner.take = none ∧ s.sched.suspended = false ∧ s.sched.queue = [] ∧
      s.sched.scenes.get 0 = x) ∧
    Readiness.none.overall = false ∧ allReady.overall = true ∧ base.sched.contexts.get 0 = none ∧
    (∀ b : CtxId, b < 0 → base.sched.contexts.get b ≠ none) ∧ (1 ≤ record.tracks.length ∧ record.tracks.length ≤ 4) ∧
    ∀ d ∈ record.tracks, ∃ q rest, (withCues base [{ blankCue with delta := 1 }]).cues.get d.list = q :: rest ∧
      1 ≤ q.delta ∧ q.delta ≤ 65535 := by
  refine ⟨fun r l => ⟨admits_as base_admits rfl rfl rfl, rfl, rfl, rfl, rfl, ?_⟩, rfl, rfl, rfl, by simp, by decide, ?_⟩
  · simp [withCues, withScene]
  · intro d hd
    simp only [record, List.mem_singleton] at hd
    subst hd
    exact ⟨_, _, rfl, by decide⟩
theorem witness_EndedScenesFreeTheirContext : running.quiet = true ∧ running.sched.queue = [] ∧
    (∃ k, running.sched.contexts.get 0 = some k ∧ k.journal = [] ∧ k.deadline = some 60000) ∧
    (running.sched.scenes.get 0).state = .running ∧ (∀ a, (running.sched.axisClaims.get a).holder ≠ some 0) ∧
    (∀ z, (running.sched.zoneClaims.get z).holder ≠ some 0) ∧ running.AdmitsOwned hs ∧
    (running.sched.scenes.get 0).context = some 0 ∧ reached (atTime running 60000).now 60000 = true ∧
    (atTime running 60000).quiet = true :=
  ⟨running_admits.quiet, rfl, ⟨_, rfl, rfl, rfl⟩, rfl, by decide +kernel, by decide +kernel, running_owned, rfl, by decide,
    running_admits.quiet⟩
theorem witness_QueuedScenesLeaveTheQueue : (queueing base).quiet = true ∧ (queueing base).AdmitsOwned hs ∧
    (∃ e, (queueing base).sched.queue = [e] ∧ e.scene = 0 ∧ e.preempting = false ∧
      reached (queueing base).now e.expiry = true) ∧ ((queueing base).sched.scenes.get 0).state = .queued ∧
    ((queueing base).sched.scenes.get 0).record ≠ none ∧ ((withScene base (scene .resting)).sched.scenes.get 0).record ≠ none ∧
    (withScene base (scene .resting)).AdmitsOwned hs :=
  ⟨base_admits.quiet, ⟨admits_as base_admits rfl rfl rfl, rfl⟩, ⟨_, rfl, rfl, rfl, by decide⟩, rfl, by decide, by decide,
    ⟨admits_as base_admits rfl rfl rfl, rfl⟩⟩

/-- A part whose scene 1 is RETURNING in context 1, its axis 1 on the way back. -/
def returning : State :=
  let s := withAxis (withScene (inMode .opened) { scene .returning with context := some 0 })
    { carriage with state := .moving, kind := some (.ret 0) }
  { s with sched := { s.sched with
      axisClaims := s.sched.axisClaims.set 0 { holder := some 0, promise := none },
      contexts := s.sched.contexts.set 0 (some
        { scene := 0, journal := [{ axis := 0, position := 9, outcome := .returning }], deadline := none,
          returnLimit := some 0, serial := 1, tracks := [] }) } }

theorem witness_RestsAndReturnsEnd :
    (let s := withScene base { scene .resting with restUntil := some 0 };
      s.quiet = true ∧ s.sched.queue = [] ∧ (s.sched.scenes.get 0).state = .resting ∧
      (s.sched.scenes.get 0).restUntil = some 0 ∧ reached s.now 0 = true) ∧
    returning.quiet = true ∧ returning.sched.queue = [] ∧
    (∃ k, returning.sched.contexts.get 0 = some k ∧ k.returnLimit = some 0 ∧
      k.journal = [{ axis := 0, position := 9, outcome := .returning }]) ∧ reached returning.now 0 = true ∧
    (returning.sched.scenes.get 0).record = some record ∧ (returning.sched.scenes.get 0).state = .returning ∧
    (returning.sched.axisClaims.get 0).holder = some 0 ∧ (returning.motion.axes.get 0).state = .moving ∧
    (returning.motion.axes.get 0).kind = some (.ret 0) :=
  ⟨by decide, by decide, rfl, ⟨_, rfl, rfl, rfl⟩, by decide, rfl, rfl, rfl, rfl, rfl⟩

/-- A part with a change of zone 1 and of sensor 1 on their way to every block, behind one of another unit. -/
def delivering (change : ZoneState) (heat : Thermal) : State := { base with delivery := { base.delivery with
  zoneScheduler := [⟨1, .clear, none⟩, ⟨0, change, none⟩], zoneMotion := [⟨1, .clear, none⟩, ⟨0, change, none⟩],
  zoneMixer := [⟨1, .clear, none⟩, ⟨0, change, none⟩], thermalLighting := [⟨1, .hot, 75⟩, ⟨0, heat, 75⟩],
  thermalMotion := [⟨1, .hot, 75⟩, ⟨0, heat, 75⟩], thermalScheduler := [⟨1, .hot, 75⟩, ⟨0, heat, 75⟩] } }

theorem witness_DeliveredChangesAreEvaluated (change : ZoneState) (heat : Thermal) :
    (delivering change heat).quiet = true ∧ (delivering change heat).sched.queue = [] ∧
    (delivering change heat).delivery.zoneScheduler = [⟨1, .clear, none⟩] ++ ⟨0, change, none⟩ :: [] ∧
    (delivering change heat).delivery.thermalScheduler = [⟨1, .hot, 75⟩] ++ ⟨0, heat, 75⟩ :: [] ∧
    (∀ y ∈ [(⟨1, .clear, none⟩ : ZoneChange)], y.zone ≠ 0 ∧ none ≠ some y.zone) ∧ (∀ y ∈ [(⟨1, .hot, 75⟩ : ThermalChange)], y.sensor ≠ 0) ∧
    (delivering change heat).sched.seen.occupied.get 0 = false ∧
    ∀ c, (delivering change heat).sched.contexts.get c = none :=
  ⟨base_admits.quiet, rfl, rfl, rfl, by decide, by decide, rfl, by
    have : ∀ c, base.sched.contexts.get c = none := by decide +kernel
    exact this⟩
theorem witness_DueCuesAreIssued :
    let s := atTime running 100
    s.quiet = true ∧ s.sched.queue = [] ∧ (∃ k t u, s.sched.contexts.get 0 = some k ∧ k.tracks[0]? = some t ∧
      t.phase = .playing 0 0 0 100 ∧ k.tracks[1]? = some u ∧ u.phase = .playing 1 100 0 100 ∧ u.defn.mode = .once ∧
      t.phase ≠ .done) ∧ reached s.now 100 = true ∧ (s.cues.get 0)[0]? = some { blankCue with delta := 100 } ∧
    (s.cues.get 0)[1]? = some { blankCue with delta := 100 } ∧ (s.cues.get 0)[2]? = none ∧ blankCue.act = .mark 0 ∧
    reached s.now (later 100 100) = false :=
  ⟨running_admits.quiet, rfl, ⟨_, _, _, rfl, rfl, rfl, rfl, rfl, rfl, by decide⟩, by decide, rfl, rfl, rfl, rfl,
    by decide⟩

theorem base_due : reached base.now 0 = true := by decide
theorem base_two : elapsed (atTime base 2).now 0 = 2 := by decide

theorem witness_LevelsAreDefinedAndSet : base.AdmitsDefine hs ∧ base.AdmitsOwned hs ∧ base.sched.mode ≠ .standstill ∧
    base.store.job = none ∧ served.AdmitsService hv ∧ (0 : Channel) ≤ 47 ∧ (inMode .standstill).AdmitsOwned hs ∧
    (inMode .standstill).sched.mode = .standstill ∧ base.Admits hs ∧ base.sched.mode ≠ .service :=
  ⟨base_defines, base_owned, by decide, rfl, served_service, by decide, inMode_owned _, rfl, base_admits, by decide⟩

/-- A part whose Lighting Engine has a frame and a hold due, and a stop message under way. -/
def lit (m : StopMessage) : State := { base with
  light := { base.light with nextFrame := some 0, groups := base.light.groups.set 0 { base.light.groups.get 0 with
    phase := .safe, holdExpiry := some 0 } },
  delivery := { base.delivery with stopLighting := [m] } }

theorem witness_LightingFollowsFramesAndStops : (∀ m, (lit m).quiet = true ∧ (lit m).light.nextFrame = some 0 ∧
      reached (lit m).now 0 = true ∧ ((lit m).light.groups.get 0).phase = .safe ∧
      ((lit m).light.groups.get 0).holdExpiry = some 0 ∧ (lit m).delivery.stopLighting = m :: []) ∧
    { base.light.groups.get 0 with lineActive := true }.lineActive = true :=
  ⟨fun _ => ⟨base_admits.quiet, rfl, base_due, rfl, rfl, rfl⟩, rfl⟩

/-- A part whose sensor 1 is fitted and HOT with derate 75. -/
def warm : State := { base with supervisor := { base.supervisor with
  sensors := base.supervisor.sensors.set 0
    { SensorState.start { defaultSensor with fitted := true } with thermal := .hot } } }

theorem witness_BindingsTakeEffectAtOnce : warm.AdmitsDefine hs ∧ warm.sched.queue = [] ∧ warm.noThermals = warm ∧
    boundThermal warm.supervisor.sensors (warm.light.groups.get 5).defn.sensor =
      boundThermal warm.supervisor.sensors (some 3) ∧
    boundThermal warm.supervisor.sensors (warm.light.groups.get 0).defn.sensor ≠
      boundThermal warm.supervisor.sensors (some 0) ∧ (boundThermal warm.supervisor.sensors (some 0)).1 ≠ .critical ∧
    boundThermal warm.supervisor.sensors (warm.supervisor.axisBindings.get 2) =
      boundThermal warm.supervisor.sensors (some 3) ∧
    (min 260 (240 : Int) ≤ max 80 (min 240 240)) ∧ (max 80 (min 240 79) : Int) < min 260 261 ∧
    (warm.supervisor.sensors.get 0).defn.derate = (max 50 (min 100 (75 : Int))).toNat ∧
    (warm.supervisor.sensors.get 3).thermal = .normal :=
  ⟨⟨admits_as base_admits rfl rfl rfl, rfl, .inl rfl, rfl⟩, rfl, rfl, by decide +kernel, by decide +kernel, by decide +kernel,
    by decide +kernel, by decide, by decide, by decide +kernel, rfl⟩

/-- An axis on its way to 3,000. -/
def travelling : AxisRec := { carriage with
  state := .moving, position := some 0, target := some 3000, kind := some .jog, cruise := 1000,
  travel := some { t0 := 0, start := Kin.outset [] 0 3000, plan := .toward 3000 1000 2000 } }

theorem witness_ThermalChangesReachBoundGroups :
    (∀ change heat, (delivering change heat).quiet = true ∧ (delivering change heat).sched.queue = [] ∧
      (delivering change heat).delivery.thermalLighting = [⟨1, .hot, 75⟩] ++ ⟨0, heat, 75⟩ :: [] ∧
      (delivering change heat).delivery.thermalMotion = [⟨1, .hot, 75⟩] ++ ⟨0, heat, 75⟩ :: []) ∧
    (let s := withAxis (delivering .clear .critical) travelling
     let t := { s with supervisor := { s.supervisor with axisBindings := s.supervisor.axisBindings.set 0 (some 0) } }
     t.supervisor.axisBindings.get (groupOfAxis 0) = some 0 ∧ (t.motion.axes.get 0).state = .moving ∧
      (t.motion.axes.get 0).travel.isSome = true ∧ (t.motion.axes.get 0).target = some 3000 ∧
      (∀ a, (t.motion.axes.get a).state ≠ .homing ∧ (t.motion.axes.get a).state ≠ .held ∧
        ((t.motion.axes.get a).state = .moving → a = 0)) ∧ (t.motion.groups.get 0).thermal ≠ .critical) ∧
    travelling.kind = some .jog :=
  ⟨fun _ _ => ⟨base_admits.quiet, rfl, rfl, rfl⟩, by decide +kernel, rfl⟩

/-- A DEFINE AXIS body of axis 1 with the default definition. -/
def axisBody : AxisBody := ⟨1, 0, 0, 60000, 0, 1000, 2000, 10000, 200, 50, 0, 0, 100, 1⟩

/-- A part with axis 1 enabled, its home switch so. -/
def homable (home : Bool) : State := withAxis base { carriage with home := { Filter.start false with active := home } }

theorem witness_AxesAreDefinedAndHomed : base.sched.queue = [] ∧ base.AdmitsDefine hs ∧
    (unitNo (0 : Axis) = axisBody.axis ∧ axisBody.enabled ≤ 1 ∧
      optUnitNo (none : Option FloorZone) = axisBody.guardZone ∧ axisBody.guardAction ≤ 1 ∧ axisBody.sense ≤ 1 ∧
      min 60000 axisBody.min < min 60000 axisBody.max ∧
      min 60000 { axisBody with min := 60001 }.max ≤ min 60000 { axisBody with min := 60001 }.min) ∧ (base.sched.axisClaims.get 0).holder = none ∧
    (base.motion.axes.get 0).state = .unhomed ∧ (base.motion.groups.get 0).lineActive = false ∧
    (∀ home, (homable home).AdmitsOwned hs ∧ (homable home).sched.mode ≠ .standstill ∧ (homable home).motion.estop = false ∧
      ((homable home).motion.axes.get 0).defn.enabled = true ∧ ((homable home).motion.axes.get 0).state = .unhomed ∧
      ((homable home).motion.axes.get 0).home.active = home ∧ ((homable home).motion.axes.get 0).low.active = false ∧
      ((homable home).motion.axes.get 0).high.active = false ∧ carriage.defn.guardZone = none ∧
      ((homable home).motion.groups.get 0).thermal ≠ .critical) ∧
    (returning.sched.axisClaims.get 0).holder ≠ none ∧ returning.AdmitsOwned hs ∧ returning.motion.estop = false :=
  ⟨rfl, base_defines, by decide, rfl, rfl, rfl, fun home => ⟨⟨admits_as base_admits rfl rfl rfl, rfl⟩, by decide +revert,
    rfl, rfl, rfl, rfl, rfl, rfl, rfl, by decide +revert⟩, by decide, ⟨admits_as base_admits rfl rfl rfl, rfl⟩, rfl⟩

/-- A part whose axis 1, in a state, has a switch whose change is due. -/
def switching (st : AxisState) (sw : Switch) (line seeded : Bool) : State :=
  withAxis base (AxisRec.modSwitch { carriage with state := st } sw fun _ =>
    { line := line, active := !line, timer := some 0, seeded := seeded })

theorem witness_SwitchesFindHomeAndFault :
    (∀ st sw line seeded, let s := switching st sw line seeded; let x := s.motion.axes.get 0;
      s.quiet = true ∧ s.sched.queue = [] ∧ (x.switch sw).line = line ∧ (x.switch sw).seeded = seeded ∧
      (x.switch sw).timer = some 0 ∧ reached s.now 0 = true ∧ x.state = st ∧ x.waiting = [] ∧ x.kind = none ∧
      (s.sched.axisClaims.get 0).holder = none ∧ sense x.defn.sense (x.switch sw).line = !line) ∧
    62000 ≤ { carriage with state := .homing, steps := 62000 }.stepsAt 0 := by
  refine ⟨fun st sw line seeded => ?_, by decide⟩
  cases sw <;> cases line <;> exact ⟨base_admits.quiet, rfl, rfl, rfl, rfl, base_due, rfl, rfl, rfl, rfl, rfl⟩

/-- A part under service control whose axis 1 is this one. -/
def servedAxis (x : AxisRec) : State := withAxis served x

theorem witness_MovesSetOutAndComeToRest :
    (let s := servedAxis { carriage with state := .idle, position := some 0 }; let x := s.motion.axes.get 0;
      x.state = .idle ∧ (s.motion.groups.get 0).thermal ≠ .critical ∧ s.motion.estop = false ∧ x.defn.guardZone = none ∧
      x.position ≠ some (max x.defn.min (min x.defn.max (min 60000 3000)))) ∧
    (servedAxis carriage).AdmitsService hv ∧ ((servedAxis carriage).motion.axes.get 0).state = .unhomed ∧
    (let s := atTime (withAxis base travelling) 3500;
      s.quiet = true ∧ s.sched.queue = [] ∧ (s.sched.axisClaims.get 0).holder = none ∧ travelling.waiting = [] ∧
      travelling.over s.now = true ∧ (s.motion.axes.get 0) = travelling ∧ travelling.target = some 3000) ∧
    (∀ b, let x := { travelling with
            state := .stopping, stoppedHoming := b, target := none,
            travel := some { t0 := 0, start := Kin.outset [] 0 3000, plan := .stop 2000 } };
      x.over 0 = true) ∧
    (let x := { travelling with
        state := .held, travel := some { t0 := 0, start := Kin.outset [] 0 3000, plan := .stop 2000 } };
      x.over 0 = true ∧ x.positionAt 0 ≠ x.target) ∧
    { travelling with
        state := .homing, paused := true,
        travel := some { t0 := 0, start := Kin.outset [] 0 3000, plan := .stop 2000 } }.over 0 = true :=
  ⟨by decide, ⟨admits_as served_admits rfl rfl rfl, by decide, by decide⟩, rfl, by decide +kernel, by decide +kernel,
    by decide +kernel, by decide +kernel⟩

theorem witness_GuardsAndStopsActOnAxes :
    (let s := withAxis (delivering .occupied .normal) travelling;
      s.quiet = true ∧ s.sched.queue = [] ∧ s.delivery.zoneMotion = [⟨1, .clear, none⟩] ++ ⟨0, .occupied, none⟩ :: [] ∧
      s.motion.occupied.get 0 = false ∧ (∀ a, (s.motion.axes.get a).state = .moving → a = 0) ∧
      (s.motion.axes.get 0).target = some 3000 ∧ (s.motion.axes.get 0).travel.isSome = true) ∧
    (let held := { travelling with state := .held, travel := none, defn := { travelling.defn with guardZone := some 0 } }
     let s := withAxis (delivering .clear .normal) held;
      s.quiet = true ∧ s.delivery.zoneMotion = [⟨1, .clear, none⟩] ++ ⟨0, .clear, none⟩ :: [] ∧
      { s.motion with occupied := s.motion.occupied.set 0 true }.occupied.get 0 = true ∧
      (∀ a, (s.motion.axes.get a).state = .held → a = 0) ∧ held.target ≠ none ∧ held.target ≠ held.position ∧
      held.position ≠ none) ∧
    (∀ a, (base.motion.axes.get a).state ≠ .held) ∧
    { base with delivery := { base.delivery with stopMotion := [.on] } }.delivery.stopMotion = .on :: [] ∧
    { base with delivery := { base.delivery with stopMotion := [.off] } }.delivery.stopMotion = .off :: [] :=
  ⟨by decide +kernel, by decide +kernel, by decide +kernel, rfl, rfl⟩

/-- A part under service control with clip 7 DEFINED, a voice playing it in zone 1, and these clips listed. -/
def voiced (waiting : List ListedClip) : State :=
  let s := withZone served { SoundZoneState.start defaultSoundZone with
    voice := some { item := { clip := 7, attenuation := 0, ctx := none, track := none }, started := 0,
                    buffer := { Buffer.start 0 256 false with
                      slots := List.replicate 4 { block := none, content := .empty } } }, waiting := waiting }
  { s with mixer := { s.mixer with clips := s.mixer.clips.set 7 (.defined 0 256) } }

theorem witness_VoicesStartAndEnd : base.sched.queue = [] ∧ base.mixer.read = none ∧ base.AdmitsDefine hs ∧
    (base.sched.zoneClaims.get 0).holder = none ∧ (base.mixer.zones.get 0).defn.bed = none ∧
    (voiced []).AdmitsService hv ∧ (voiced []).mixer.latch = false ∧ (voiced []).mixer.clips.get 7 = .defined 0 256 ∧
    ((voiced []).mixer.zones.get 0).waiting = [] ∧
    (∃ v, ((voiced []).mixer.zones.get 0).voice = some v ∧ v.item.track = none ∧
      reached (atTime (voiced []) 11).now (later v.started (ceilDiv v.buffer.length 24)) = true) ∧
    (voiced []).mixer.defined 8 = none ∧
    ((voiced [{ clip := 7, attenuation := 0, ctx := none, track := none }]).mixer.zones.get 0).waiting =
      { clip := 7, attenuation := 0, ctx := none, track := none } :: [] :=
  ⟨rfl, rfl, base_defines, rfl, rfl, ⟨admits_of (by decide +kernel), rfl, rfl⟩, rfl, rfl, rfl,
    ⟨_, rfl, rfl, by decide⟩, rfl, rfl⟩
theorem witness_VoicesStartAndEnd_bed : let s := { voiced [] with owner := base.owner }
    s.sched.queue = [] ∧ s.mixer.read = none ∧ s.AdmitsDefine hs ∧ (some 7 : Option ClipId) ≠ some 0 ∧
    (s.sched.zoneClaims.get 0).holder = none ∧ (s.mixer.zones.get 0).defn.bed ≠ some 7 ∧
    s.mixer.latch = false ∧ (s.mixer.zones.get 0).muted = false ∧ s.mixer.defined 7 = some (0, 256) :=
  ⟨rfl, rfl, ⟨admits_of (by decide +kernel), rfl, .inr rfl, rfl⟩, by decide, rfl, by decide +kernel, rfl, rfl, rfl⟩
theorem witness_MixerTakesZonesAndStops :
    (∀ change heat, (delivering change heat).quiet = true ∧
      (delivering change heat).delivery.zoneMixer = [⟨1, .clear, none⟩] ++ ⟨0, change, none⟩ :: []) ∧
    (∀ m, let s := { voiced [] with delivery := { base.delivery with stopMixer := [m] } };
      s.quiet = true ∧ s.delivery.stopMixer = m :: [] ∧ s.sched.queue = [] ∧ s.mixer.read = none) ∧
    ∀ z, ((voiced []).sched.zoneClaims.get z).holder = none ∧
      (((voiced []).mixer.zones.get z).voice.all fun v => decide (v.item.track = none)) = true ∧
      ((voiced []).mixer.zones.get z).waiting = [] :=
  ⟨fun _ _ => ⟨base_admits.quiet, rfl⟩, fun m => ⟨by cases m <;> decide +kernel, rfl, rfl, rfl⟩, by decide +kernel⟩

/-- A part with a read in flight, issued at 0. -/
def reading (t : ReadTarget) (latch : Bool) : State := { base with
  mixer := { base.mixer with latch := latch, probeAt := some 0, read := some { issued := 0, target := t, block := 9 } } }

theorem witness_ClipReadsFillSlotsOrLatch (latch : Bool) :
    (∀ t, (atTime (reading t latch) 2).mixer.read = some { issued := 0, target := t, block := 9 } ∧
      elapsed (atTime (reading t latch) 2).now 0 = 2 ∧ (reading t latch).sched.queue = [] ∧
      (reading t latch).mixer.latch = latch ∧ (reading t latch).mixer.probeAt = some 0 ∧
      reached (reading t latch).now 0 = true) ∧
    ∀ z, (base.mixer.zones.get z).voice = none ∧ (base.mixer.zones.get z).waiting = [] :=
  ⟨fun _ => ⟨rfl, base_two, rfl, rfl, rfl, base_due⟩, by decide +kernel⟩
theorem witness_ClipsTakeLowestFreeRun : base.AdmitsDefine hs ∧ base.mixer.anyPlaying = false ∧
    (voiced []).mixer.anyPlaying = true ∧
    lowestFree (extents (base.mixer.clips.set 7 .empty)) (ceilDiv (min 16777215 16777216) 256) = some 0 ∧
    lowestFree [(0, 131072)] 1 = none ∧ lowestFree [(0, 2), (5, 1)] 3 = some 2 := by
  refine ⟨base_defines, ?_⟩; decide +kernel
theorem witness_ClipsTakeLowestFreeRun_playing : { voiced [] with owner := base.owner }.AdmitsDefine hs :=
  ⟨admits_of (by decide +kernel), rfl, .inr rfl, rfl⟩

/-- A part with clip 7 WRITING, and a write of its last two bytes holding the flash since 0. -/
def writing : State := { base with
  mixer := { base.mixer with clips := base.mixer.clips.set 7 (.writing 0 1 0) },
  store := { base.store with
    held := some .clipWrite,
    writes := [{ port := .showLink, clip := 7, offset := 0, data := [1#8, 2#8], address := 0, began := some 0 }] } }

theorem witness_ClipBytesReachTheirAddresses :
    writing.AdmitsDefine hs ∧ writing.mixer.anyPlaying = false ∧ writing.mixer.clips.get 7 = .writing 0 1 0 ∧
    (1 ≤ [1#8, 2#8].length ∧ [1#8, 2#8].length ≤ 240 ∧ 0 + [1#8, 2#8].length ≤ 2 * 1) ∧
    (∃ x, writing.store.held = some .clipWrite ∧ writing.store.writes = x :: [] ∧ x.began = some 0 ∧ x.clip = 7 ∧
      x.offset = 0) ∧ Memory.wf writing.store.clips = true ∧ elapsed (atTime writing 100).now 0 = 100 :=
  ⟨⟨admits_of (by decide), rfl, .inl rfl, rfl⟩, by decide +kernel, rfl, by decide, ⟨_, rfl, rfl, rfl, rfl, rfl⟩, rfl,
    by decide⟩

/-- A part with a STORE SHOW that holds the flash since 0. -/
def storing : State := { base with store := { base.store with
  held := some .store, job := some { port := .showLink, copy := emptyShow, accepted := 0 } } }

theorem witness_StoreReplacesImageWhole : base.AdmitsDefine hs ∧
    { base.store with queued := [.store] }.queued.head? = some .store ∧
    (∃ j, storing.store.job = some j ∧ j.copy = emptyShow) ∧ storing.store.held = some .store ∧
    elapsed (atTime storing 3000).now 0 = 3000 ∧ rangesOk emptyShow = true ∧ crossReferencesOk emptyShow = true :=
  ⟨base_defines, rfl, ⟨_, rfl, rfl⟩, rfl, by decide, by decide +kernel, by decide +kernel⟩

/-- A part whose sensor 1, in a state, is to be read. -/
def sampling (heat : Thermal) (latch : Bool) : State := { base with supervisor := { base.supervisor with
  toRead := [0], sensors := base.supervisor.sensors.set 0
    { SensorState.start { defaultSensor with fitted := true } with thermal := heat, faultLatch := latch } } }

theorem witness_SensorReadingsMakeStates :
    (∀ heat latch, (sampling heat latch).quiet = true ∧ 0 ∈ (sampling heat latch).supervisor.toRead ∧
      ((sampling heat latch).supervisor.sensors.get 0).defn.fitted = true ∧
      ((sampling heat latch).supervisor.sensors.get 0).thermal = heat ∧
      ((sampling heat latch).supervisor.sensors.get 0).faultLatch = latch) ∧
    (-80 : Int) ≤ 300 ∧ nextThermal defaultSensor .normal (-80) = .normal ∧ nextThermal defaultSensor .normal 300 ≠ .normal ∧
    (300 : Int) < 301 :=
  ⟨fun _ _ => ⟨base_admits.quiet, by simp [sampling], rfl, rfl, rfl⟩, by decide, by decide, by decide, by decide⟩

/-- A part whose lamp group 1 and emergency-stop filters are due over lines that stand so. -/
def filtering (line seeded : Bool) : State := { base with supervisor := { base.supervisor with
  lampLines := base.supervisor.lampLines.set 0 { filter := ⟨line, false, some 0, seeded⟩, latch := false },
  estop := ⟨line, false, some 0, seeded⟩ } }

theorem witness_FaultAndStopLinesAreFiltered (line seeded : Bool) : (filtering line seeded).quiet = true ∧
    (filtering line seeded).sched.queue = [] ∧ (∀ c, (filtering line seeded).sched.contexts.get c = none) ∧
    ((filtering line seeded).supervisor.driver (.lamp 0)).filter.line ≠ !line ∧
    (filtering line seeded).supervisor.estop.line ≠ !line ∧
    ((filtering line seeded).supervisor.lampLines.get 0).filter.timer = some 0 ∧ reached (filtering line seeded).now 0 = true ∧
    ((filtering line seeded).supervisor.lampLines.get 0).filter.line = line ∧
    ((filtering line seeded).supervisor.lampLines.get 0).filter.seeded = seeded ∧
    (filtering line seeded).supervisor.estop.timer = some 0 ∧ (filtering line seeded).supervisor.estop.seeded = seeded :=
  ⟨base_admits.quiet, rfl, by
    have : ∀ c, base.sched.contexts.get c = none := by decide +kernel
    exact this, by cases line <;> simp [filtering, Supervisor.driver], by cases line <;> simp [filtering], rfl, by
    have : reached base.now 0 = true := by decide
    exact this, rfl, rfl, rfl, rfl⟩

/-- A part whose timetable entry 1 has an action at minute 0 of Monday, one millisecond short of the end of Sunday. -/
def midnight (action : TimetableAction) : State := { base with clock := { base.clock with
  phase := 999, firing := true, time := some { seconds := 86399, weekday := 6 },
  timetable := base.clock.timetable.set 0 (some { days := [0], minute := 0, action := action }) } }

theorem witness_ClockTakesItsSettings :
    (unitNo (31 : EntryId) = 32 ∧ 127 < 2 ^ 7 ∧ 1439 ≤ 1439 ∧ unitNo (63 : SceneId) = 64 ∧
      (2 : Nat) ^ 7 ≤ 128 ∧ 1439 < 1440 ∧ 3 < 4 ∧ 64 < 65 ∧ 0 < 1 ∧ 32 < 33) ∧
    (midnight .openShow).AdmitsDefine hs ∧ (midnight .openShow).AdmitsOwned hs ∧ (midnight .openShow).sched.queue = [] ∧
    catchUp base.clock.timetable { seconds := 86399, weekday := 6 } = none ∧
    catchUp (midnight .openShow).clock.timetable { seconds := 86399, weekday := 6 } =
      some (0, { days := [0], minute := 0, action := .openShow }, 0) ∧ (midnight .openShow).sched.mode = .closed ∧
    86399 < 86400 :=
  ⟨by decide, ⟨admits_as base_admits rfl rfl rfl, rfl, .inl rfl, rfl⟩, ⟨admits_as base_admits rfl rfl rfl, rfl⟩, rfl,
    by decide +kernel, by decide +kernel, rfl, by decide⟩
theorem witness_MillisecondsAdvanceTheClock : base.clock.phase < 999 ∧ (midnight .closeShow).clock.phase = 999 ∧
    (midnight .closeShow).clock.firing = true ∧
    ((midnight .closeShow).clock.time.map fun t =>
      if t.seconds < 86399 then { t with seconds := t.seconds + 1 } else ⟨0, t.weekday + 1⟩) =
        some { seconds := 0, weekday := 0 } ∧
    firingEntries (midnight .closeShow).clock.timetable { seconds := 0, weekday := 0 } =
      [(0, { days := [0], minute := 0, action := .closeShow })] ∧ (midnight .closeShow).sched.queue = [] ∧
    (midnight .closeShow).sched.mode = .closed := by decide +kernel

/-- A part with a take of control pending. -/
def taking (s : State) : State := { s with
  owner := { owner := .showLink, take := some .wait, silence := some 0 },
  delivery := { s.delivery with stopOwner := [.on] },
  link := { s.link with servicePort := { s.link.servicePort with pending := some .takeControl } } }

theorem witness_ControlIsTakenWhenStagesAreFree :
    (∀ m, (inMode m).Admits { port := .serviceLink, lengthOk := true } ∧ (inMode m).sched.mode = m ∧
      (inMode m).sched.queue = [] ∧ (inMode m).owner.owner = .showLink ∧ ∀ c, (inMode m).sched.contexts.get c = none) ∧
    served.Admits { port := .serviceLink, lengthOk := true } ∧ served.owner.owner = .serviceLink ∧
    running.Admits { port := .serviceLink, lengthOk := true } ∧ ¬(∀ c, running.sched.contexts.get c = none) ∧
    (taking base).quiet = true ∧ (taking base).owner.take ≠ none ∧
    ((taking base).port .serviceLink).pending = some .takeControl ∧ (taking base).sched.mode = .closed ∧
    (taking base).delivery.stopOwner = .on :: [] ∧ (taking base).owner.silence = some 0 ∧
    reached (taking base).now 0 = true ∧ base.owner.take = none :=
  ⟨fun m => ⟨admits_of (by cases m <;> decide), rfl, rfl, rfl, by cases m <;> decide +kernel⟩, served_admits, rfl,
    admits_of (by decide +kernel), fun h => absurd (h 0) (by decide), by decide, by decide, rfl, rfl, rfl, rfl, by decide,
    rfl⟩
theorem witness_ControlReturnsToShowLink :
    (∀ m, let s := { served with sched := { served.sched with mode := m } };
      s.quiet = true ∧ s.sched.queue = [] ∧ s.mixer.read = none ∧
      s.AdmitsOwned { port := .serviceLink, lengthOk := true } ∧ s.sched.mode = m ∧ s.owner.take = none ∧
      s.owner.silence = some 60000 ∧ reached (atTime s 60000).now 60000 = true) ∧
    ∀ z, (served.mixer.zones.get z).voice = none ∧ (served.mixer.zones.get z).waiting = [] :=
  ⟨fun _ => ⟨served_admits.quiet, rfl, rfl, ⟨admits_as served_admits rfl rfl rfl, rfl⟩, rfl, rfl, rfl, by
    have : reached 60000 60000 = true := by decide
    exact this⟩, by decide +kernel⟩

/-! Witnesses of the further clauses of the statements, and small tests of what they say. -/

theorem reset_laws : State.reset.SceneLaws where
  room := by decide
  ordered := by exact List.Pairwise.nil
  once := by exact List.nodup_nil
  queued := by exact fun e h => absurd h List.not_mem_nil
  held c x h := absurd h (by have : ∀ c, State.reset.sched.contexts.get c = none := by decide +kernel
                             rw [this c]; simp)
  apart c d x y h := absurd h (by have : ∀ c, State.reset.sched.contexts.get c = none := by decide +kernel
                                  rw [this c]; simp)
  calm h := absurd h (by decide)
  take h := absurd rfl h
  returnMode := by decide
  serviceReturn := .inl rfl
  service h := absurd h (by decide)

theorem witness_StepsKeepLinkAndClockBounds_laws : State.reset.SceneLaws ∧ step State.reset = .next State.reset :=
  ⟨reset_laws, rfl⟩

theorem witness_OnlyAcknowledgementsClearLatches_routed :
    let s := withAxis { base with mixer := { base.mixer with latch := true } } { carriage with travelLatch := true }
    exec .takeGrant s = .next s ∧ (s.motion.axes.get 0).travelLatch = true ∧ s.mixer.latch = true := ⟨rfl, rfl, rfl⟩

theorem witness_GainAndMixAreNearest_ends : (80 : Nat) ≤ 80 ∧ 80 + 0 ≤ 80 ∧ 80 ≤ 80 + 80 ∧ (32767 : Int) ≤ 32768 ∧
    (-32769 : Int) ≤ -32768 := by decide

/-- R135: beyond 80 in all a bed's factor is that of 80, and a sum beyond the ends of the range is the end. -/
theorem test_bed_cap_and_saturation : bedFactor 60 30 = gain 80 ∧ bedFactor 255 0 = 0 ∧ saturate 40000 = 32767 ∧
    saturate (-40000) = -32768 ∧ saturate (-3) = -3 := by decide

/-- An image region whose checks come to this far: a right length, a right CRC, ranges, cross-references. -/
def imaged (length crc : Bool) (d : Option Definitions) : FlashImage :=
  { bytes := [7#8], lengthField := if length then some 1 else some 2,
    crcField := if crc then some (crc16 [7#8]) else none, definitions := d }

theorem witness_LoadEndMakesWorkingDefinitions_image :
    (¬ ((imaged false true none).lengthField = some (imaged false true none).bytes.length)) ∧
    (imaged true false none).lengthField = some (imaged true false none).bytes.length ∧
    (imaged true false none).crcField ≠ some (crc16 [7#8]) ∧
    (imaged true true none).crcField = some (crc16 [7#8]) ∧ (imaged true true (some emptyShow)).definitions = some emptyShow ∧
    rangesOk emptyShow = true ∧ crossReferencesOk emptyShow = true ∧
    rangesOk { emptyShow with trim := 600 } = false ∧
    (∃ d, rangesOk d = true ∧ crossReferencesOk d = false) := by
  refine ⟨by decide, rfl, by decide, rfl, rfl, by decide +kernel, by decide +kernel, by decide +kernel,
    { emptyShow with scenes := emptyShow.scenes.set 0 (some record) }, by decide +kernel, by decide +kernel⟩

/-- R174: the first check that fails is reported; R175: a WRITING clip of a valid image is taken as EMPTY. -/
theorem test_image_reasons : imageReason (imaged false true none) false = some .length ∧
    imageReason (imaged true false none) false = some .crc ∧ imageReason (imaged true true none) false = some .range ∧
    imageReason (imaged true true (some emptyShow)) false = none ∧
    imageReason (imaged true true (some emptyShow)) true = some .readFailed ∧
    (loadedShow (imaged true true (some { emptyShow with clips := emptyShow.clips.set 4 (.writing 0 9 2) })) none).clips.get 4 =
      .empty := by decide +kernel

/-- R174 with R1 and R32: a field that the defining request does not check is not checked at loading. -/
theorem test_unchecked_fields_load : trackOk { list := 0, mode := .once, passes := 9 } = true ∧
    trackOk { list := 0, mode := .repeated, passes := 1 } = false ∧ inputOk { presence with stuckLimit := 0 } = true ∧
    inputOk { presence with role := .button, stuckLimit := 0 } = false ∧ inputOk { presence with zone := none } = false := by
  decide

theorem witness_ReceiverTakesWholeFramesOnly_last :
    let bytes := (frameBytes 0x07#8 []).drop 1
    frameBytes 0x07#8 [] = 0xA5#8 :: (bytes.dropLast ++ [bytes.getLastD 0]) ∧
    ((receiving (.collecting bytes.dropLast 25)).port .showLink).receiver = .collecting bytes.dropLast 25 ∧
    [1#8, 7#8, 0#8] ++ [0#8] = 1#8 :: [7#8] ++ [0#8, 0#8] ∧ leNat [0#8, 0#8] ≠ (crc16 (1#8 :: [7#8])).toNat := by
  decide +kernel

/-- Section 12.5: a cue record goes out as it came in, with its padding 0. -/
theorem test_cue_bytes : cueBytes { delta := 258, wait := true, cut := false, occupiedOnly := false, act := .axis 1 60 3000 } =
      [2, 1, 2, 1, 2, 60, 0xB8, 0x0B, 0, 0] ∧
    cueBytes { delta := 0, wait := false, cut := true, occupiedOnly := true, act := .narrate 3 9 80 } =
      [0, 0, 3, 6, 4, 9, 80, 0, 0, 0] := by decide

theorem witness_FrameBytesAreCollectedWhole_replies : ([] : List Cue).length ≤ 24 ∧ ([] : List PressRecord).length ≤ 16 ∧
    (List.replicate 24 blankCue).length ≤ 24 := by decide
theorem witness_TransmitterPrefersRepliesAndRestarts_kinds : isRequestKind .showLink (0x01#8).toNat = true ∧
    isRequestKind .showLink (0x2E#8).toNat = true ∧ isRequestKind .serviceLink (0x39#8).toNat = true := by decide

/-- A part whose input 1, a PRESENCE input of floor zone 1, is ACTIVE there. -/
def present : State := zoned (withInput base { InputLine.start presence true with active := true, seeded := true }) .occupied 0

theorem witness_InputsAndZonesAreDefined_moved :
    (unitNo (0 : InputId) = 1 ∧ unitNo (1 : FloorZone) = 2) ∧
    memberZone (present.inputs.lines.get 0).profile = some 0 ∧ memberZone { presence with zone := some 1 } = some 1 ∧
    present.AdmitsDefine hs :=
  ⟨by decide, rfl, rfl, ⟨admits_as base_admits rfl rfl rfl, rfl, .inl rfl, rfl⟩⟩

/-- R14: an input moved from one floor zone to another changes the zone it left first, and a block that is given the
second change first waits. -/
theorem test_moved_input_orders_its_zones :
    ((after (exec (.defineInput hs ⟨1, 2, 0, 20, 2, 0, 0, 0, 0⟩) present)).map (·.delivery.zoneMixer) =
      some [⟨0, .clear, none⟩, ⟨1, .occupied, some 0⟩]) ∧
    ((after (exec (.defineInput hs ⟨1, 2, 0, 20, 2, 0, 0, 0, 0⟩) present)).bind fun s =>
      (after (exec (.zoneChangeMixer 1) s)).map (·.delivery.zoneMixer.length)) = some 2 := by decide +kernel

theorem witness_DeliveredChangesAreEvaluated_follower :
    let s := { base with delivery := { base.delivery with zoneScheduler := [⟨0, .clear, none⟩, ⟨1, .occupied, some 0⟩] } }
    s.quiet = true ∧ s.sched.queue = [] ∧
    s.delivery.zoneScheduler = [⟨0, .clear, none⟩] ++ ⟨1, .occupied, some 0⟩ :: [] ∧
    (∀ y ∈ [(⟨0, .clear, none⟩ : ZoneChange)], y.zone ≠ 1) ∧ ∃ y ∈ [(⟨0, .clear, none⟩ : ZoneChange)], some 0 = some y.zone :=
  ⟨base_admits.quiet, rfl, rfl, by decide, _, List.mem_singleton.2 rfl, rfl⟩
theorem witness_DeliveredChangesAreEvaluated_readiness :
    (∀ st, ((withScene base (scene st)).sched.scenes.get 0).record = some record) ∧ record.enabled = true ∧
    (base.sched.scenes.get 0).record = none ∧ { record with enabled := false }.enabled = false := by
  refine ⟨fun st => ?_, rfl, rfl, rfl⟩; cases st <;> rfl

/-- Section 2.5: a scene with an UNHOMED axis is not ready on its axes, and one with none is. -/
theorem test_readiness_of_axes :
    (readinessOf (some { record with axes := [0] }) base.sched.seen base.motion.axes .opened).axes = false ∧
    (readinessOf (some record) base.sched.seen base.motion.axes .opened) = allReady := by decide +kernel

/-- A contribution of a context at a priority, idle at a level. -/
def contribution (c : CtxId) (priority level : Nat) : Contribution := { ctx := c, priority := priority, fade := .idle level }

/-- A channel with contributions of contexts 1 and 2. -/
def stacked : ChannelState := { ChannelState.start defaultChannel with stack := [contribution 0 6 600, contribution 1 5 300] }

theorem witness_EndedScenesFreeTheirContext_removal : stacked.stack.head? = some (contribution 0 6 600) ∧
    (contribution 0 6 600).ctx = 0 ∧ ∀ top, stacked.stack.head? = some top → top.ctx ≠ 1 := by
  refine ⟨rfl, rfl, fun top h => ?_⟩
  cases h; decide

/-- R83, R84: a contribution of equal priority opens above, at the present level; R87: the removed top hands over. -/
theorem test_stack_opens_and_hands_over :
    ((stacked.openFor .clear 0 2 5).stack.map (·.ctx)) = [0, 2, 1] ∧
    ((stacked.openFor .clear 0 2 5).stack[1]?).map (·.fade.target) = some 600 ∧
    (stacked.removeFor .clear 9 0 1000).handover = some { start := 600, t0 := 9, duration := 1000 } := by decide

/-- R95: a contribution opened in phase BASE leaves the base blend running, so the level goes on. -/
theorem test_base_blend_runs_on :
    let c := { stacked with stack := [], levelBlend := some { start := 800, t0 := 0, toBase := true } }
    ((c.openFor .base 1000 2 5).level .base 1000) = c.level .base 1000 := by decide

/-- A part whose scene 1 holds this record and is RUNNING in context 1, with this journal, list and show mode: its track
1 has the list's first record due at 100, and its other tracks stand so. -/
def cueing (m : Mode) (r : SceneRecord) (journal : List JournalEntry) (cues : List Cue) (others : List Track) : State :=
  let s := atTime (withCues (withScene (inMode m) { scene .running with record := some r, context := some 0 }) cues) 100
  { s with sched := { s.sched with
      axisClaims := .ofFn fun a => { holder := if a ∈ r.axes then some 0 else none, promise := none },
      contexts := s.sched.contexts.set 0 (some
        { scene := 0, journal := journal, deadline := some 60000, returnLimit := none, serial := 1,
          tracks := { defn := { list := 0, mode := .once, passes := 0 }, pass := 1, phase := .playing 0 0 0 100 } ::
            others }) } }

/-- A due cue with a MARK 500 ms behind it. -/
def due (act : CueAct) (wait cut occupied : Bool) : List Cue :=
  [{ delta := 100, wait := wait, cut := cut, occupiedOnly := occupied, act := act }, { blankCue with delta := 500 }]

/-- A track that is DONE. -/
def doneTrack : Track := { defn := { list := 0, mode := .once, passes := 0 }, pass := 1, phase := .done }

theorem cueing_at (m : Mode) (r : SceneRecord) (j : List JournalEntry) (q : Cue) (qs : List Cue) (ts : List Track) :
    let s := cueing m r j (q :: qs) ts
    s.quiet = true ∧ s.sched.queue = [] ∧ s.sched.mode = m ∧ s.sched.suspended = false ∧
    (s.sched.scenes.get 0).record = some r ∧ (s.sched.scenes.get 0).state = .running ∧
    (s.sched.scenes.get 0).context = some 0 ∧
    (∃ k t, s.sched.contexts.get 0 = some k ∧ k.scene = 0 ∧ k.journal = j ∧ k.deadline = some 60000 ∧
      k.tracks = t :: ts ∧ k.tracks[0]? = some t ∧ t.phase = .playing 0 0 0 100 ∧ t.defn.mode = .once ∧
      (s.cues.get t.defn.list)[0]? = some q ∧ (s.cues.get t.defn.list)[1]? = qs[0]?) ∧
    reached s.now 100 = true ∧ reached s.now (later 100 500) = false ∧ reached s.now (later s.now 500) = false :=
  ⟨base_admits.quiet, rfl, rfl, rfl, rfl, rfl, rfl, ⟨_, _, rfl, rfl, rfl, rfl, rfl, rfl, rfl, rfl, rfl, by cases qs <;> rfl⟩,
    by have : reached 100 100 = true := by decide
       exact this,
    by have : reached 100 (later 100 500) = false := by decide
       exact this,
    by have : reached 100 (later 100 500) = false := by decide
       exact this⟩

/-- A part whose scene 2 holds this record, in a state. -/
def withOther (s : State) (r : SceneRecord) (st : SceneState) (ready : Readiness) : State :=
  { s with sched := { s.sched with
    scenes := s.sched.scenes.set 1 { Scene.start (some r) with state := st, ready := ready } } }

theorem witness_DueCuesAreIssued_requests (m : Mode) (st : SceneState) (ready : Readiness) :
    let s := withOther (cueing m record [] (due (.request 1) false false false) []) record st ready
    s.quiet = true ∧ s.sched.mode = m ∧ s.sched.suspended = false ∧ (s.sched.scenes.get 1).state = st ∧
    (s.sched.scenes.get 1).record = some record ∧ (s.sched.scenes.get 1).ready = ready ∧
    Readiness.none.overall = false ∧ record.waitLimit ≠ 0 :=
  ⟨base_admits.quiet, rfl, rfl, rfl, rfl, rfl, rfl, by decide⟩

/-- The carriage at rest at 40, and on its way to 3,000. -/
def resting : AxisRec := { carriage with state := .idle, position := some 40 }

theorem witness_DueCuesAreIssued_axis (wait : Bool) :
    let s := fun x => withAxis (cueing .opened { record with axes := [0] } [] (due (.axis 0 60 3000) wait false false) []) x
    (∀ x, (s x).quiet = true ∧ (s x).motion.axes.get 0 = x ∧ ((s x).sched.axisClaims.get 0).holder = some 0 ∧
      (s x).motion.estop = false ∧ ((s x).motion.groups.get (groupOfAxis 0)).thermal ≠ .critical ∧ (s x).now = 100) ∧
    carriage.state = .unhomed ∧ { carriage with state := .stopping, stoppedHoming := true }.stoppedHoming = true ∧
    { base.motion with estop := true }.estop = true ∧
    (resting.state = .idle ∧ resting.positionAt 100 = some 40 ∧ resting.defn.guardZone = none ∧
      resting.position ≠ some (max resting.defn.min (min resting.defn.max 3000))) ∧
    travelling.state = .moving ∧ travelling.positionAt 100 = some 10 ∧ (travelling.point 100).still = false := by
  refine ⟨fun x => ⟨base_admits.quiet, rfl, rfl, rfl, ?_, rfl⟩, rfl, rfl, rfl, by decide, rfl, by decide +kernel,
    by decide +kernel⟩
  have : (base.motion.groups.get (groupOfAxis 0)).thermal ≠ .critical := by decide
  exact this

theorem witness_DueCuesAreIssued_narrate (wait cut occupied : Bool) (waiting : List ListedClip) :
    let s := cueing .opened record [] (due (.narrate 0 7 0) wait cut occupied) []
    let quiet := { s with mixer := { s.mixer with clips := s.mixer.clips.set 7 (.defined 0 256) } }
    let loud := { s with mixer := (voiced waiting).mixer }
    s.mixer.defined 7 = none ∧ { s.mixer with latch := true }.latch = true ∧ s.mixer.occupied.get 5 = false ∧
    quiet.mixer.clips.get 7 = .defined 0 256 ∧ quiet.mixer.defined 7 ≠ none ∧ quiet.mixer.latch = false ∧
    (quiet.mixer.zones.get 0).voice = none ∧ (quiet.mixer.zones.get 0).waiting = [] ∧
    (quiet.mixer.zones.get 0).defn.floor = none ∧ quiet.mixer.read = none ∧
    (∃ v, (loud.mixer.zones.get 0).voice = some v ∧ v.item.track = none) ∧ (loud.mixer.zones.get 0).waiting = waiting ∧
    loud.mixer.clips.get 7 = .defined 0 256 ∧ loud.mixer.latch = false ∧ loud.mixer.read = none :=
  ⟨rfl, rfl, rfl, rfl, Option.some_ne_none (0, 256), rfl, rfl, rfl, rfl, rfl, ⟨_, rfl, rfl⟩, rfl, rfl, rfl, rfl⟩
theorem witness_DueCuesAreIssued_loud :
    (let s := cueing .opened record [] (due (.narrate 0 7 0) true false true) []
     { s with mixer := { s.mixer with clips := s.mixer.clips.set 7 (.defined 0 256) } }.quiet = true) ∧
    { cueing .opened record [] (due (.narrate 0 7 0) true true false) [] with mixer := (voiced []).mixer }.quiet = true ∧
    { cueing .opened record [] (due (.narrate 0 7 0) true false false) [] with
      mixer := (voiced (List.replicate 4 ⟨7, 0, none, none⟩)).mixer }.quiet = true := by decide +kernel

/-- A journal that holds axis 1, with its recorded position 9. -/
def journalled : List JournalEntry := [{ axis := 0, position := 9, outcome := .pending }]

theorem witness_ScenesEndReturnAndPreempt :
    (∀ m f, let r := { record with axes := [0], zones := [0], followOn := f }
      let s := cueing m r journalled [{ blankCue with delta := 100 }] [doneTrack]
      r.followOn = f ∧ (s.motion.axes.get 0).state = .unhomed ∧ (s.mixer.zones.get 0).voice = none ∧
      (s.mixer.zones.get 0).waiting = [] ∧ doneTrack.phase = .done) ∧
    (let r := { record with axes := [0] }
     let s := withAxis (cueing .opened r journalled (due (.mark 0) false false false) []) resting
     s.AdmitsOwned hs ∧ (∀ z, (s.sched.zoneClaims.get z).holder ≠ some 0) ∧ s.sched.axisClaims.get 0 = ⟨some 0, none⟩ ∧
     (s.motion.groups.get (groupOfAxis 0)).thermal ≠ .critical ∧ s.motion.estop = false ∧
     (s.motion.axes.get 0).state = .idle ∧ (s.motion.axes.get 0).position ≠ some 9 ∧
     (s.motion.axes.get 0).defn.guardZone = none ∧ reached (atTime s 60000).now 60000 = true ∧
     (let d := { record with axes := [0], priority := 6 }
      let u := withOther s d .idle allReady
      u.Admits hs ∧ u.owner.owner = hs.port ∧ u.owner.take = none ∧ (1 : SceneId) ≠ 0 ∧
      (u.sched.scenes.get 1).record = some d ∧ (u.sched.scenes.get 1).state = .idle ∧
      (u.sched.scenes.get 1).ready.overall = true ∧ d.axes = [0] ∧ d.zones = [] ∧ r.priority < d.priority)) := by
  refine ⟨fun m f => ⟨rfl, rfl, rfl, rfl, rfl⟩, ⟨admits_as base_admits rfl rfl rfl, rfl⟩, ?_, rfl, ?_, rfl, rfl, by decide, rfl,
    by decide, admits_as base_admits rfl rfl rfl, rfl, rfl, by decide, rfl, rfl, rfl, rfl, rfl, by decide⟩
  · have : ∀ z, (base.sched.zoneClaims.get z).holder ≠ some 0 := by decide +kernel
    exact this
  · have : (base.motion.groups.get (groupOfAxis 0)).thermal ≠ .critical := by decide
    exact this

/-- R110: a track waits once for an axis, and one a scene has left behind is not completed for the next (R75). -/
theorem test_waiting_tracks : joinWaiting [⟨0, 0, 1⟩] (some ⟨0, 0, 1⟩) = [⟨0, 0, 1⟩] ∧
    joinWaiting [⟨0, 0, 1⟩] (some ⟨0, 0, 2⟩) = [⟨0, 0, 1⟩, ⟨0, 0, 2⟩] := by decide

/-- R119: under the emergency-stop flag a return move of an UNHOMED axis is not reported. -/
theorem test_return_under_estop :
    (Work.returnMove { base.work with motion := { base.motion with estop := true } } 0 0 9).tasks = [] := by decide +kernel

/-- R130: the DROPPED notice of a clip gives the track only with WAIT. -/
theorem test_dropped_clip_names_waiting_track (wait : Bool) :
    (after (exec (.cueIssue 0 1) { cueing .opened record [] (due (.narrate 0 7 0) wait false false) [] with
      mixer := (voiced (List.replicate 4 ⟨7, 0, none, none⟩)).mixer })).map (·.link.showPort.transmitter) =
    some (.notice ⟨100, .droppedClip 0 7 (some 0) (if wait then some 1 else none)⟩ 0) := by
  revert wait; decide +kernel

/-- R109: halfway through a triangular move of 400 steps the axis is at 199 of them, and at 895 ms it has arrived. -/
theorem test_triangular_move :
    let x := { carriage with state := .moving, position := some 0, target := some 400, kind := some .jog, cruise := 1000,
                             travel := some { t0 := 0, start := Kin.outset [] 0 400, plan := .toward 400 1000 2000 } }
    x.positionAt 447 = some 199 ∧ x.positionAt 448 = some 200 ∧ x.over 894 = false ∧ x.over 895 = true := by decide +kernel

/-- A running blend of a channel, and a running handover. -/
def blending (toBase : Bool) : ChannelState :=
  { stacked with levelBlend := some { start := 800, t0 := 0, toBase := toBase },
                 handover := some { start := 900, t0 := 0, duration := 1000 } }

theorem witness_LightingFollowsFramesAndStops_levels :
    (∀ toBase, (blending toBase).levelBlend = some { start := 800, t0 := 0, toBase := toBase }) ∧
    elapsed 500 (0 : Stamp) < 2000 ∧ elapsed 500 (0 : Stamp) < 1000 ∧ ¬ elapsed 1000 (0 : Stamp) < 1000 ∧
    { stacked with test := some 77 }.test = some 77 ∧ stacked.test = none ∧ stacked.handover = none ∧
    stacked.levelBlend = none :=
  ⟨fun _ => rfl, by decide, by decide, by decide, rfl, rfl, rfl, rfl⟩

/-- R88: the level's source, in its order. -/
theorem test_level_sources :
    (blending false).level .safe 500 = (1000, .safe) ∧ (blending true).level .base 500 = (600, .baseBlend) ∧
    (blending false).level .base 500 = (0, .base) ∧ (blending true).level .clear 500 = (750, .handover) ∧
    (blending true).level .clear 1000 = (600, .contribution 0) ∧
    ({ blending true with test := some 77 }.level .clear 500) = (77, .test) ∧
    ((blending false).level .clear 500).2 = .recovery := by decide

theorem witness_ThermalChangesReachBoundGroups_lamps :
    let s := { delivering .clear .critical with light := { base.light with
      groups := base.light.groups.modify 0 fun g => { g with defn := { g.defn with sensor := some 0 } } } }
    s.quiet = true ∧ (∃ g, (s.light.groups.get g).defn.sensor = some 0) ∧
    ∀ g, ((delivering .clear .critical).light.groups.get g).defn.sensor ≠ some 0 :=
  ⟨base_admits.quiet, ⟨0, rfl⟩, by
    have : ∀ g, (base.light.groups.get g).defn.sensor ≠ some 0 := by decide +kernel
    exact this⟩

theorem witness_FaultAndStopLinesAreFiltered_axes (line seeded : Bool) :
    let s := withAxis { base with supervisor := { base.supervisor with
      axisLines := base.supervisor.axisLines.set 0 { filter := ⟨line, false, some 0, seeded⟩, latch := false } } } travelling
    s.quiet = true ∧ (s.supervisor.axisLines.get 0).filter.timer = some 0 ∧ reached s.now 0 = true ∧
    (s.supervisor.axisLines.get 0).filter.line = line ∧ (s.supervisor.axisLines.get 0).filter.seeded = seeded ∧
    (s.supervisor.axisLines.get 0).latch = false :=
  ⟨base_admits.quiet, rfl, base_due, rfl, rfl, rfl⟩

/-- R114: the driver-fault line of axis group 1 faults its enabled axes and leaves the others. -/
theorem test_axis_driver_fault :
    (after (exec (.driverFaultFilterExpiry (.axis 0)) (withAxis { base with supervisor := { base.supervisor with
      axisLines := base.supervisor.axisLines.set 0 { filter := ⟨true, false, some 0, true⟩, latch := false } } }
      travelling))).map (fun t => ((t.motion.axes.get 0).state, (t.motion.axes.get 0).driverCause,
        (t.motion.axes.get 1).state)) = some (.faulted, true, .unhomed) := by decide +kernel

theorem witness_MillisecondsAdvanceTheClock_firings (action : TimetableAction) (m : Mode) (st : SceneState)
    (ready : Readiness) :
    let s := withOther { midnight action with sched := { base.sched with mode := m } } record st ready
    s.clock.phase = 999 ∧ s.clock.firing = true ∧ s.clock.time = some { seconds := 86399, weekday := 6 } ∧
    firingEntries s.clock.timetable { seconds := 0, weekday := 0 } = [(0, { days := [0], minute := 0, action := action })] ∧
    s.sched.queue = [] ∧ s.sched.mode = m ∧ s.sched.suspended = false ∧ (s.sched.scenes.get 1).state = st ∧
    (s.sched.scenes.get 1).record = some record ∧ (s.sched.scenes.get 1).ready = ready :=
  ⟨rfl, rfl, rfl, rfl, rfl, rfl, rfl, rfl, rfl, rfl⟩

/-- R157: an OPEN entry opens a CLOSED show, and a START entry in a CLOSED show is dropped. -/
theorem test_timetable_fires :
    ((after (exec .clockMillisecond (midnight .openShow))).map (·.sched.mode) = some .opened) ∧
    (after (exec .clockMillisecond (midnight (.start 0)))).map (·.link.outbox) =
      some [⟨1, .dropped 0 (.timetable 0) .closed⟩] := by decide +kernel

/-! Witnesses of the ranges of the lamp levels. -/

theorem reset_channels_in_range (c : Channel) : (State.reset.light.channels.get c).InRange := by
  have e : State.reset.light.channels.get c = ChannelState.start defaultChannel := by revert c; decide +kernel
  rw [e]
  exact ⟨by decide, by decide, fun _ h => absurd h List.not_mem_nil, fun _ h => absurd h (by simp [ChannelState.start]),
    fun _ h => absurd h (by simp [ChannelState.start]), fun _ h => absurd h (by simp [ChannelState.start]),
    fun _ h => absurd h (by simp [ChannelState.start])⟩

theorem reset_level_laws : State.reset.LevelLaws where
  channels := reset_channels_in_range
  groups := by decide +kernel
  sensors := by decide +kernel
  delivered _ h := absurd h List.not_mem_nil
  cues l _ h := by
    have e : ∀ l, State.reset.cues.get l = [] := by decide +kernel
    rw [e l] at h; exact absurd h List.not_mem_nil
  frame := by decide +kernel

theorem witness_StepsKeepLinkAndClockBounds_levels : State.reset.LevelLaws ∧ step State.reset = .next State.reset :=
  ⟨reset_level_laws, rfl⟩
theorem witness_OutputValueFollowsCurveAndFloor_frames : State.reset.LevelLaws := reset_level_laws

/-- A lamp group in a phase and thermal state, with master 400. -/
def dimmed (phase : EstopPhase) (heat : Thermal) : LampGroupState :=
  { base.light.groups.get 0 with phase := phase, thermal := heat, defn := { (base.light.groups.get 0).defn with master := 400 } }

theorem witness_ScaledLevelIsNearest_masters :
    (∀ phase heat, (dimmed phase heat).phase = phase ∧ (dimmed phase heat).thermal = heat) ∧
    (EstopPhase.base ≠ .safe ∧ EstopPhase.clear ≠ .safe) ∧
    (∀ test, let c := { stacked with test := test, masterFade := some { start := 200, t0 := 0 } };
      c.test = test ∧ c.masterFade = some { start := 200, t0 := 0 }) ∧
    elapsed 1999 (0 : Stamp) < 2000 ∧ 2000 ≤ elapsed 2000 (0 : Stamp) ∧ stacked.masterFade = none :=
  ⟨fun _ _ => ⟨rfl, rfl⟩, by decide, fun _ => ⟨rfl, rfl⟩, by decide, by decide, rfl⟩

/-! Witnesses of what the bodies of definitions become. -/

theorem witness_CueFlagsKeptByKind_parameters :
    (unitNo (0 : Channel) = 1 ∧ unitNo (47 : Channel) = 48 ∧ (0 : Channel) ≤ 47) ∧ unitNo (11 : Axis) = (12#8).toNat ∧
    unitNo (3 : SoundZone) = (4#8).toNat ∧ (255 : ClipId).val = (255#8).toNat ∧ unitNo (63 : SceneId) = (64#8).toNat ∧
    cueOf ⟨0#16, 1#8, 0, 2#8, 1#8, 0, 0, 0, 0⟩ = none ∧ cueOf ⟨0#16, 0#8, 0, 1#8, 0, 0, 0, 0, 0⟩ = none := by decide

/-- R63: a LAMP cue of all channels beyond both settings' ends takes 1000 and 60,000 and counts as clamped. -/
theorem test_clamped_lamp_cue : cueOf ⟨7#16, 1#8, 0, 1#8, 48#8, 0xE9#8, 3#8, 0x61#8, 0xEA#8⟩ =
    some ({ delta := 7, wait := false, cut := false, occupiedOnly := false, act := .lamp 0 47 1000 60000 }, true) := by decide

theorem witness_InputsAndZonesAreDefined_refused :
    (0 < 1 ∧ 16 < 17 ∧ 2 < 3 ∧ 1 < 2 ∧ 64 < 65 ∧ 8 < 9) ∧ base.AdmitsDefine hs := ⟨by decide, base_defines⟩
theorem witness_InputsAndZonesAreDefined_roles (p : InputProfile) :
    ((0 : Nat) = 0 ∧ p = p ∧ false = false) ∧ (max 2 (min 250 251) ≠ 251 ∧ max 5 (min 600 600) = 600) ∧
    (∃ scene : Option SceneId, optUnitNo scene = 64) ∧ ∃ z : FloorZone, unitNo z = 1 :=
  ⟨⟨rfl, rfl, rfl⟩, by decide, ⟨some 63, rfl⟩, 0, rfl⟩

/-- R1: a BUTTON of scene 64 with a stuck limit of 601 takes 600, is ADJUSTED, and keeps no floor zone. -/
theorem test_button_body : inputOf ⟨16, 1, 1, 2, 8, 64, 1, 601, 1⟩ =
    some (15, { role := .button, polarity := .activeLow, debounce := 2, zone := none, scene := some 63,
                capture := .latest, stuckLimit := 600, notify := true }, true) := by decide

theorem witness_DefinedSceneTakesItsRecord_body :
    sceneOf { defining with scene := 65 } = none ∧ sceneOf { defining with trackCount := 5 } = none ∧
    sceneOf { defining with tracks := [⟨129, 1, 0⟩] } = none ∧ sceneOf { removing with audience := 9 } = some (0, none, false) ∧
    (∃ d, sceneOf { defining with scene := 64, tracks := [⟨128, 2, 1⟩], rest := 601 } = some (63, some d, true) ∧
      d.tracks = [{ list := 127, mode := .repeated, passes := 2 }] ∧ d.rest = 600) ∧
    defining.tracks[0]? = some ⟨1, 1, 0⟩ ∧ base.AdmitsDefine hs :=
  ⟨by decide +kernel, by decide +kernel, by decide +kernel, by decide +kernel, ⟨_, rfl, rfl, rfl⟩, rfl, base_defines⟩

theorem witness_CueListsAreSizedAndWritten_refused :
    let s := withCues base [blankCue, blankCue]
    s.AdmitsDefine { ({ port := .showLink, lengthOk := false } : FrameHead) with lengthOk := true } ∧ base.cues.get 0 = [] ∧
    s.cues.get 0 ≠ [] ∧ (hs.lengthOk = true ∧ 1 ≤ 2 ∧ 2 ≤ 24 ∧ 0 + 2 ≤ (s.cues.get 0).length) ∧
    ¬ (0 + 3 ≤ (s.cues.get 0).length) ∧
    (let rs : List CueBody := [⟨0, 5, 0, 0, 0, 0, 0, 0, 0⟩, ⟨0, 7, 0, 0, 0, 0, 0, 0, 0⟩]
     rs[1]? = some ⟨0, 7, 0, 0, 0, 0, 0, 0, 0⟩ ∧ cueOf ⟨0, 7, 0, 0, 0, 0, 0, 0, 0⟩ = none ∧
     cueOf ⟨0, 5, 0, 0, 0, 0, 0, 0, 0⟩ ≠ none) ∧
    listInUse (withScene s (scene .running)).sched.scenes 0 = true :=
  ⟨⟨admits_as base_admits rfl rfl rfl, rfl, .inl rfl, rfl⟩, rfl, by decide, by decide, by decide, by decide, by decide +kernel⟩

/-- R65: the record that does not pass is named by its place in the list. -/
theorem test_bad_record :
    (after (exec (.writeCues hs 1 1 2 [⟨0, 5, 0, 0, 0, 0, 0, 0, 0⟩, ⟨0, 7, 0, 0, 0, 0, 0, 0, 0⟩])
      (withCues base [blankCue, blankCue, blankCue]))).map (·.link.showPort.transmitter) =
    some (.reply { kind := 0x94#8, code := .badBody, body := .badRecord 2 }) := by decide +kernel

/-! Witnesses of the arithmetic of the Mixer and of the motions. -/

/-- A bed of `length` samples at a place. -/
def bedAt (position length : Nat) (loops : Bool) : Buffer := { Buffer.start 0 length loops with position := position }

theorem witness_GainAndMixAreNearest_milliseconds :
    (let k : Duck := { start := 2, up := true, t0 := 0 }
     500 * 6 ≤ 12 * elapsed 250 k.t0 ∧ 12 * elapsed 250 k.t0 < 500 * (6 + 1) ∧ k.up = true ∧ { k with up := false }.up = false ∧
       k.start ≤ 12) ∧
    (let r : Ramp := { start := 255, target := 10, t0 := 0, duration := 1000 }
     r.duration ≤ elapsed 1000 r.t0 ∧ elapsed 999 r.t0 < r.duration) ∧
    (let r : Ramp := { start := 10, target := 255, t0 := 0, duration := 1000 }
     (if r.start = 255 then 80 else r.start) ≤ (if r.target = 255 then 80 else r.target)) ∧
    (bedAt 510 510 true).length ≤ (bedAt 510 510 true).position ∧
    ((bedAt 254 510 true).position + 1 < (bedAt 254 510 true).length ∧ ((bedAt 254 510 true).position + 1) % 256 ≠ 0) ∧
    ((bedAt 255 510 true).position + 1 < (bedAt 255 510 true).length ∧ ((bedAt 255 510 true).position + 1) % 256 = 0) ∧
    (∀ loops, (bedAt 509 510 loops).position + 1 = (bedAt 509 510 loops).length ∧ (bedAt 509 510 loops).loops = loops) := by
  decide

/-- R126: at the end of a block its slot is freed for the next block that will be needed; a bed returns to 0. -/
theorem test_bed_wraps :
    ((bedAt 255 510 true).advance.1.slots.map (·.block), (bedAt 255 510 true).advance.2) =
      ([some 1, some 0, some 1, some 0], 1) ∧
    (bedAt 509 510 true).advance.1.position = 0 ∧ (bedAt 509 510 false).advance.1.position = 510 := by decide

theorem witness_MovesSetOutAndComeToRest_limit :
    (let g : AxisGroupState := { thermal := .hot, derate := 75, lineActive := false, latch := false }
     g.thermal = .hot ∧ 100 * 113 ≤ 150 * g.derate + 50 ∧ 150 * g.derate + 50 < 100 * (113 + 1) ∧
       { g with thermal := .normal }.thermal ≠ .hot) ∧
    { carriage with guardEffect := .creeping }.guardEffect = .creeping := by decide
theorem witness_MovesSetOutAndComeToRest_rest :
    travelling.travel = some { t0 := 0, start := Kin.outset [] 0 3000, plan := .toward 3000 1000 2000 } ∧
    travelling.position = some 0 ∧ travelling.over 3500 = true ∧
    (let x := { travelling with travel := some { t0 := 0, start := Kin.outset [] 0 3000, plan := .stop 2000 } }
     x.over 0 = true) := ⟨rfl, rfl, by decide +kernel, by decide +kernel⟩
/-- Upward at 400 steps/s from 100, a deceleration of 2,000 stops at 140: targets at, short of and beyond it. -/
theorem witness_MovesSetOutAndComeToRest_times :
    let k : Kin := { place := .rat 100, speed := .rat 400, upward := true, roots := [] }
    (0 : Rat) ≤ 400 ∧ 0 < 2000 ∧ 0 < 1000 ∧ k.stoppingPoint 2000 = 140 ∧ ¬ ((140 : Int) < 139) ∧ (140 : Int) < 141 ∧
      (0 : Rat) < 400 ∧ (0 : Rat) ≤ 0 := by decide +kernel

/-- R110: a target at the stopping point is reached after v/a, 200 ms; one short of it after that and a move back. -/
theorem test_retargeted_times :
    let k : Kin := { place := .rat 100, speed := .rat 400, upward := true, roots := [] }
    ({ t0 := 0, start := k, plan := .toward 140 1000 2000 } : Travel).restMs = some 200 ∧
    ({ t0 := 0, start := k, plan := .toward 90 1000 2000 } : Travel).restMs = some 517 := by decide +kernel

/-! Witnesses of the lists of acknowledgements. -/

/-- A list of every kind, with unit 0, that expands to 50 entries. -/
theorem witness_AcknowledgementsClearWhatIsGone_lists :
    let latches : List (Nat × Nat) := [(1, 0), (2, 0), (3, 0), (4, 0), (5, 0), (6, 0), (7, 0), (8, 0)]
    let size (kind : Nat) : Nat := [0, 6, 3, 4, 4, 4, 16, 12, 1].getD kind 0
    let named (latches : List (Nat × Nat)) : List (Nat × Nat) :=
      latches.flatMap fun e => if e.2 = 0 then (List.range (size e.1)).map fun k => (e.1, k + 1) else [e]
    base.AdmitsOwned hs ∧ base.sched.queue = [] ∧ 1 ≤ latches.length ∧ latches.length ≤ 32 ∧
    (∀ e ∈ latches, 1 ≤ e.1 ∧ e.1 ≤ 8 ∧ e.2 ≤ size e.1) ∧ (named latches).length = 50 ∧ (∃ e ∈ latches, 5 < e.1) ∧
    (∀ g, (base.supervisor.lampLines.get g).latch = false) ∧ (∀ g, (base.supervisor.axisLines.get g).latch = false) ∧
    (latched.AdmitsOwned hs ∧ (∀ e ∈ [((3 : Nat), (0 : Nat)), (3, 1), (5, 4)], e.1 ≤ 5 ∧ e.2 ≤ size e.1) ∧
      (named [(3, 0), (3, 1), (5, 4)])[4]? = some (3, 1)) ∧
    64 < (named (latches ++ latches)).length ∧ size 8 < 2 :=
  ⟨base_owned, rfl, by decide, by decide, by decide, by decide +kernel, by decide, by decide, by decide,
    ⟨⟨admits_as base_admits rfl rfl rfl, rfl⟩, by decide, by decide⟩, by decide +kernel, by decide⟩
theorem witness_AcknowledgementsClearWhatIsGone_axis_line : (latched.supervisor.axisLines.get 2).latch = true ∧
    (latched.supervisor.axisLines.get 2).filter.active = false := ⟨rfl, rfl⟩

/-- R147: a latch named twice in a list is CLEARED and then WAS_CLEAR. -/
theorem test_named_twice :
    (after (exec (.acknowledgeFaults hs 2 [(5, 4), (5, 4)]) latched)).map (·.link.showPort.transmitter) =
    some (.reply ⟨0xA8#8, .done, .acks [⟨.criticalSeen, 4, some .cleared⟩, ⟨.criticalSeen, 4, some .wasClear⟩]⟩) := by decide +kernel

end Sys2Proof.Tests
end

section
/-! The ready lines of section 2.6 (R30): what `Scene.lights` and `Scheduler.readyLine` say. -/

namespace Sys2Proof

/-- The rows of a table are what its units hold. -/
theorem Table.mem_rows_iff (t : Table n α) (a : α) : a ∈ t.rows ↔ ∃ i, t.get i = a := by
  constructor
  · intro ha
    obtain ⟨k, hk, hget⟩ := List.getElem_of_mem ha
    exact ⟨⟨k, t.size ▸ hk⟩, hget⟩
  · rintro ⟨i, rfl⟩
    exact List.getElem_mem _

theorem Table.rows_any_iff (t : Table n α) (p : α → Bool) :
    t.rows.any p = true ↔ ∃ i, p (t.get i) = true := by
  simp [Table.mem_rows_iff]

end Sys2Proof

namespace Sys2Proof.Machine

/-- A scene with no record, or with ready line 0, lights no line (R30). -/
theorem Scene.lights_iff (x : Scene) (mode : Mode) (line : ReadyLine) :
    x.lights mode line = true ↔
      mode = .opened ∧ ∃ r, x.record = some r ∧ r.readyLine = some line ∧
        x.state = .idle ∧ x.ready.overall = true := by
  have assigned : x.record.bind (·.readyLine) = some line ↔
      ∃ r, x.record = some r ∧ r.readyLine = some line := Option.bind_eq_some_iff
  simp only [Scene.lights, Bool.and_eq_true, decide_eq_true_eq, assigned]
  constructor
  · rintro ⟨⟨⟨⟨r, hrec, hline⟩, hidle⟩, hready⟩, hmode⟩
    exact ⟨hmode, r, hrec, hline, hidle, hready⟩
  · rintro ⟨hmode, r, hrec, hline, hidle, hready⟩
    exact ⟨⟨⟨⟨r, hrec, hline⟩, hidle⟩, hready⟩, hmode⟩

theorem Scheduler.readyLine_iff_scene_lights (s : Scheduler) (line : ReadyLine) :
    s.readyLine line = true ↔ ∃ i, (s.scenes.get i).lights s.mode line = true :=
  Table.rows_any_iff s.scenes fun x => x.lights s.mode line

/-- Settles O16: a line is lit when some scene lights it, and the mode asked for is the same for every scene. -/
theorem readyLineLitByReadyScene : Obligations.ReadyLineLitByReadyScene := by
  intro s line
  simp only [Scheduler.readyLine_iff_scene_lights, Scene.lights_iff, exists_and_left]

end Sys2Proof.Machine
end

section
/-! The arithmetic of the outputs (R78, R88 to R90): fades, levels, masters and the curve stay in their ranges. -/

namespace Sys2Proof.Machine

theorem roundHalfUp_eq_of_nearest {a b v : Nat} (lower : 2 * b * v ≤ 2 * a + b)
    (upper : 2 * a + b < 2 * b * (v + 1)) : roundHalfUp a b = v :=
  Nat.div_eq_of_lt_le (by rwa [Nat.mul_comm v]) (by rwa [Nat.mul_comm (v + 1)])

theorem roundHalfUp_le {a b n : Nat} (hb : 0 < b) (h : a ≤ b * n) : roundHalfUp a b ≤ n := by
  have upper : 2 * a + b < 2 * b * (n + 1) := by rw [Nat.mul_succ, Nat.mul_assoc]; omega
  exact Nat.lt_succ_iff.1 (Nat.div_lt_of_lt_mul upper)

/-- A fade never leaves a range that holds its start and its target. -/
theorem fadeValue_le {s t e d bound : Nat} (hs : s ≤ bound) (ht : t ≤ bound) : fadeValue s t e d ≤ bound := by
  unfold fadeValue
  split
  next => exact ht
  next running =>
    split
    next upward =>
      have climb : roundHalfUp ((t - s) * e) d ≤ t - s :=
        roundHalfUp_le (by omega) (by rw [Nat.mul_comm]; exact Nat.mul_le_mul_right _ (by omega))
      omega
    next => omega

theorem Fade.value_le {f : Fade} {bound : Nat} (h : f.start ≤ bound ∧ f.target ≤ bound) (now : Stamp) :
    f.value now ≤ bound :=
  fadeValue_le h.1 h.2

/-! The pre-scale level of a channel whose records are in range (R88). -/

section
variable {c : ChannelState}

theorem ChannelState.InRange.sourceValue_le (h : c.InRange) (now : Stamp) : c.sourceValue now ≤ 1000 := by
  unfold ChannelState.sourceValue
  split
  next => exact Fade.value_le h.base now
  next top _ hstack => exact Fade.value_le (h.stack top (by simp [hstack])) now

/-- With no test level and no handover, the normal level is the source's live value (R88). -/
theorem ChannelState.normal_of_source {now : Stamp} (ht : c.test = none) (hh : c.runningHandover now = none) :
    (c.normal now).1 = c.sourceValue now := by
  simp only [ChannelState.normal, ChannelState.sourceValue, ht, hh]
  cases c.stack <;> rfl

theorem ChannelState.InRange.normal_le (h : c.InRange) (now : Stamp) : (c.normal now).1 ≤ 1000 := by
  cases ht : c.test with
  | some v => simpa [ChannelState.normal, ht] using h.test v ht
  | none =>
    cases hh : c.runningHandover now with
    | some o =>
      have value : c.handoverValue now o ≤ 1000 :=
        fadeValue_le (h.handover o (Option.filter_eq_some_iff.1 hh).1) (h.sourceValue_le now)
      simpa [ChannelState.normal, ht, hh] using value
    | none => exact (ChannelState.normal_of_source ht hh).trans_le (h.sourceValue_le now)

theorem ChannelState.InRange.blendValue_le (h : c.InRange) (now : Stamp) {b : LevelBlend}
    (hb : c.levelBlend = some b) : c.blendValue now b ≤ 1000 := by
  refine fadeValue_le (h.blends.1 b hb) ?_
  split
  next => exact Fade.value_le h.base now
  next => exact h.normal_le now

theorem ChannelState.InRange.level_le (h : c.InRange) (phase : EstopPhase) (now : Stamp) :
    (c.level phase now).1 ≤ 1000 := by
  obtain ⟨_, _, hsafe⟩ := h.defn
  cases phase <;> simp only [ChannelState.level]
  case safe => exact hsafe
  case base =>
    split
    next b running => exact h.blendValue_le now (Option.filter_eq_some_iff.1 running).1
    next => exact Fade.value_le h.base now
  case clear =>
    split
    next b running => exact h.blendValue_le now (Option.filter_eq_some_iff.1 running).1
    next => exact h.normal_le now

theorem ChannelState.InRange.master_le (h : c.InRange) {g : LampGroupState} (hg : g.defn.master ≤ 1000)
    (now : Stamp) : c.master g now ≤ 1000 := by
  unfold ChannelState.master
  split
  next => exact le_rfl
  next =>
    split
    next f running =>
      refine fadeValue_le (h.blends.2 f (Option.filter_eq_some_iff.1 running).1) ?_
      rw [ChannelState.masterTarget_eq]
      split <;> omega
    next => split <;> omega

end

/-! The scaled level and the output value (R89, R90). -/

theorem LampGroupState.percent_le {g : LampGroupState} (h : g.derate ≤ 100) : g.percent ≤ 100 := by
  unfold LampGroupState.percent
  split <;> omega

theorem LampGroupState.forced_eq (g : LampGroupState) :
    g.forced = decide (g.thermal = .critical ∨ g.lineActive = true) := by
  simp [LampGroupState.forced]

@[simp] theorem scaledLevel_forced (l m p : Nat) : scaledLevel true l m p = 0 := rfl

theorem scaledLevel_free (l m p : Nat) : scaledLevel false l m p = roundHalfUp (l * m * p) 100000 :=
  if_neg Bool.false_ne_true

theorem scaledLevel_le {l m p : Nat} (forced : Bool) (hl : l ≤ 1000) (hm : m ≤ 1000) (hp : p ≤ 100) :
    scaledLevel forced l m p ≤ 1000 := by
  cases forced
  case true => simp
  case false =>
    have product : l * m * p ≤ 1000 * 1000 * 100 := Nat.mul_le_mul (Nat.mul_le_mul hl hm) hp
    rw [scaledLevel_free]
    exact roundHalfUp_le (by omega) (by omega)

/-- The value of a curve before its floor (R90). -/
def curveValue : Curve → Nat → Nat
  | .linear, q => roundHalfUp (q * 4095) 1000
  | .square, q => roundHalfUp (q * q * 4095) 1000000

theorem outputValue_eq (curve : Curve) (floor q : Nat) : outputValue curve floor q =
    if 0 < curveValue curve q ∧ curveValue curve q < floor then floor else curveValue curve q := by
  cases curve <;> rfl

@[simp] theorem curveValue_zero (curve : Curve) : curveValue curve 0 = 0 := by cases curve <;> rfl

@[simp] theorem curveValue_full (curve : Curve) : curveValue curve 1000 = 4095 := by cases curve <;> rfl

theorem curveValue_le {q : Nat} (curve : Curve) (hq : q ≤ 1000) : curveValue curve q ≤ 4095 := by
  cases curve
  case linear => exact roundHalfUp_le (by omega) (by omega)
  case square =>
    have hqq : q * q ≤ 1000 * 1000 := Nat.mul_le_mul hq hq
    exact roundHalfUp_le (by omega) (by omega)

theorem curveValue_linear_of_nearest {q v : Nat} (lower : 1000 * v ≤ q * 4095 + 500)
    (upper : q * 4095 + 500 < 1000 * (v + 1)) : curveValue .linear q = v :=
  roundHalfUp_eq_of_nearest (by omega) (by omega)

theorem curveValue_square_of_nearest {q v : Nat} (lower : 1000000 * v ≤ q * q * 4095 + 500000)
    (upper : q * q * 4095 + 500000 < 1000000 * (v + 1)) : curveValue .square q = v :=
  roundHalfUp_eq_of_nearest (by omega) (by omega)

@[simp] theorem outputValue_zero (curve : Curve) (floor : Nat) : outputValue curve floor 0 = 0 := by
  simp [outputValue_eq]

theorem outputValue_full {floor : Nat} (curve : Curve) (hf : floor ≤ 4095) : outputValue curve floor 1000 = 4095 := by
  rw [outputValue_eq, curveValue_full, if_neg (by omega)]

theorem outputValue_le {floor q : Nat} (curve : Curve) (hf : floor ≤ 4095) (hq : q ≤ 1000) :
    outputValue curve floor q ≤ 4095 := by
  have hv := curveValue_le curve hq
  rw [outputValue_eq]
  split <;> omega

/-! The outputs of a frame (R77, R88 to R92). -/

theorem channelFrame_output (c : ChannelState) (g : LampGroupState) (now : Stamp) :
    (channelFrame c g now).output =
      outputValue c.defn.curve c.defn.floor (scaledLevel g.forced (c.level g.phase now).1 (c.master g now) g.percent) :=
  rfl

theorem channelFrame_output_forced (c : ChannelState) {g : LampGroupState} (now : Stamp)
    (h : g.thermal = .critical ∨ g.lineActive = true) : (channelFrame c g now).output = 0 := by
  have forced : g.forced = true := by rw [LampGroupState.forced_eq]; exact decide_eq_true h
  simp [channelFrame_output, forced]

theorem channelFrame_output_le {c : ChannelState} {g : LampGroupState} (now : Stamp) (hc : c.InRange)
    (hg : g.defn.master ≤ 1000 ∧ g.derate ≤ 100) : (channelFrame c g now).output ≤ 4095 := by
  obtain ⟨hmaster, hderate⟩ := hg
  obtain ⟨_, hfloor, _⟩ := hc.defn
  have scaled : scaledLevel g.forced (c.level g.phase now).1 (c.master g now) g.percent ≤ 1000 :=
    scaledLevel_le _ (hc.level_le _ now) (hc.master_le hmaster now) (LampGroupState.percent_le hderate)
  exact outputValue_le _ (by omega) scaled

theorem Lighting.frame_channel (l : Lighting) (now : Stamp) (c : Channel) :
    (l.frame now).snapshot.channels.get c =
      channelFrame (l.channels.get c) (l.groups.get (groupOfChannel c)) now :=
  Table.get_ofFn _ c

/-- Settles O13: a frame's output is its channel's part of the frame, whose scaled level is in range; the rest is said
of the curve's value and the floor. -/
theorem outputValueFollowsCurveAndFloor : Obligations.OutputValueFollowsCurveAndFloor := by
  refine ⟨fun q floor hf hq => ?range, fun floor hf => ?full, outputValue_zero, fun l now c => ?frame,
    fun s now c laws => ?bound, fun q floor v => ?nearest⟩
  case range => exact ⟨outputValue_le _ (by omega) hq, outputValue_le _ (by omega) hq⟩
  case full => exact ⟨outputValue_full _ (by omega), outputValue_full _ (by omega)⟩
  case frame =>
    simp only [Lighting.frame_channel]
    refine ⟨?_, channelFrame_output_forced _ now⟩
    rw [channelFrame_output, LampGroupState.forced_eq]
  case bound =>
    rw [Lighting.frame_channel]
    exact channelFrame_output_le now (laws.channels c) (laws.groups _)
  case nearest =>
    constructor <;> intro lower upper
    · rw [outputValue_eq, curveValue_linear_of_nearest lower upper]
    · rw [outputValue_eq, curveValue_square_of_nearest lower upper]

end Sys2Proof.Machine
end


section
/-! The fade rule, the scaled level and the trimmed second (R78, R89, R94, R95, R151). -/

namespace Sys2Proof.Machine

/-- A rounded quotient lies within a half of the exact one, the upper half excluded. -/
theorem roundHalfUp_nearest (a : Nat) {b : Nat} (hb : 0 < b) :
    2 * b * roundHalfUp a b ≤ 2 * a + b ∧ 2 * a + b < 2 * b * (roundHalfUp a b + 1) :=
  ⟨Nat.mul_div_le _ _, Nat.lt_mul_div_succ _ (by omega)⟩

theorem fadeValue_of_over {s t e d : Nat} (h : d ≤ e) : fadeValue s t e d = t := if_pos h

theorem fadeValue_of_running {s t e d : Nat} (h : e < d) : fadeValue s t e d =
    if s ≤ t then s + roundHalfUp ((t - s) * e) d else s - roundHalfUp ((s - t) * e) d := if_neg (by omega)

/-- The way a running fade of height `n` has come: no more than the height, and nearest to its share of it. -/
theorem roundHalfUp_share (n : Nat) {e d : Nat} (h : e < d) :
    roundHalfUp (n * e) d ≤ n ∧ 2 * n * e < 2 * d * roundHalfUp (n * e) d + d ∧
      2 * d * roundHalfUp (n * e) d ≤ 2 * n * e + d := by
  obtain ⟨lower, upper⟩ := roundHalfUp_nearest (n * e) (Nat.zero_lt_of_lt h)
  have share : n * e ≤ d * n := by rw [Nat.mul_comm]; exact Nat.mul_le_mul_right n h.le
  rw [Nat.mul_succ] at upper
  rw [Nat.mul_assoc 2 n e]
  exact ⟨roundHalfUp_le (by omega) share, by omega, by omega⟩

theorem zero_share {e d : Nat} (h : e < d) : roundHalfUp 0 d ≤ 0 := by
  simpa using (roundHalfUp_share 0 h).1

theorem fadeValue_up {s t e d : Nat} (h : e < d) (up : s ≤ t) :
    fadeValue s t e d = s + roundHalfUp ((t - s) * e) d := by rw [fadeValue_of_running h, if_pos up]

theorem fadeValue_down {s t e d : Nat} (h : e < d) (down : t ≤ s) :
    fadeValue s t e d = s - roundHalfUp ((s - t) * e) d := by
  rw [fadeValue_of_running h]
  split
  next up => rw [Nat.le_antisymm up down, Nat.sub_self, Nat.zero_mul, Nat.le_zero.1 (zero_share h)]; rfl
  next => rfl

/-- Settles O11: a running fade has come, from its start toward its target, the nearest whole share of the height. -/
theorem fadeValueIsNearest : Obligations.FadeValueIsNearest := by
  refine fun s t e d => ⟨fun h => ?_, fun running => ⟨fun up => ?_, fun down => ?_⟩⟩
  · obtain rfl | h := h
    · exact fadeValue_of_over (Nat.zero_le e)
    · exact fadeValue_of_over h
  · obtain ⟨bound, near⟩ := roundHalfUp_share (t - s) running
    rw [fadeValue_up running up, Nat.add_sub_cancel_left]
    exact ⟨Nat.le_add_right _ _, Nat.add_le_of_le_sub' up bound, near⟩
  · obtain ⟨bound, near⟩ := roundHalfUp_share (s - t) running
    rw [fadeValue_down running down, Nat.sub_sub_self (bound.trans (Nat.sub_le s t))]
    exact ⟨Nat.le_sub_of_add_le (Nat.add_le_of_le_sub' down bound), Nat.sub_le _ _, near⟩

/-- The unforced scaled level is the nearest whole number to L·M·P/100,000, a half rounded up (R89). -/
theorem scaledLevel_nearest (l m p : Nat) : 100000 * scaledLevel false l m p ≤ l * m * p + 50000 ∧
    l * m * p + 50000 < 100000 * (scaledLevel false l m p + 1) := by
  obtain ⟨lower, upper⟩ := roundHalfUp_nearest (l * m * p) (b := 100000) (by decide)
  rw [scaledLevel_free]
  generalize roundHalfUp (l * m * p) 100000 = q at *
  generalize l * m * p = a at *
  omega

/-! The effective master of a channel, by its group's phase and its master fade (R89). -/

theorem ChannelState.master_safe (c : ChannelState) {g : LampGroupState} (now : Stamp) (h : g.phase = .safe) :
    c.master g now = 1000 := if_pos h

theorem ChannelState.master_fading (c : ChannelState) {g : LampGroupState} {now : Stamp} {f : MasterFade}
    (h : g.phase ≠ .safe) (hf : c.masterFade = some f) (running : elapsed now f.t0 < 2000) :
    c.master g now =
      fadeValue f.start (if g.phase = .clear ∧ c.test ≠ none then 1000 else g.defn.master) (elapsed now f.t0) 2000 := by
  have run : c.runningMaster now = some f := by
    rw [ChannelState.runningMaster, hf]
    exact Option.filter_eq_some_iff.2 ⟨rfl, decide_eq_true running⟩
  rw [ChannelState.master, if_neg h, run, ← ChannelState.masterTarget_eq]
  rfl

theorem ChannelState.master_steady (c : ChannelState) {g : LampGroupState} {now : Stamp} (h : g.phase ≠ .safe)
    (ended : ∀ f, c.masterFade = some f → 2000 ≤ elapsed now f.t0) :
    c.master g now = if (c.level g.phase now).2 = .test then 1000 else g.defn.master := by
  have stop : c.runningMaster now = none := by
    exact Option.filter_eq_none_iff.2 fun f hf running =>
      absurd (of_decide_eq_true running) (not_lt.2 (ended f hf))
  rw [ChannelState.master, if_neg h, stop]

/-- Settles O12: each clause is the model's function read at its case. -/
theorem scaledLevelIsNearest : Obligations.ScaledLevelIsNearest := by
  refine ⟨fun l m p => ⟨scaledLevel_forced l m p, ?_⟩, fun c g now => ?_⟩
  · obtain ⟨lower, upper⟩ := scaledLevel_nearest l m p
    exact ⟨lower, upper, scaledLevel_le false⟩
  · refine ⟨rfl, rfl, ?_, c.master_safe now, fun h f hf => c.master_fading h hf, c.master_steady, fun h => if_pos h,
      fun h => if_neg (by simp [h])⟩
    rw [channelFrame_output, LampGroupState.forced_eq]

/-! The trimmed second (R151). -/

theorem msPeriods_eq (t : Int) (phase : Nat) :
    (msPeriods t phase : Int) = 4096 - t.sign * (if phase < t.natAbs then 1 else 0) := by
  rcases lt_trichotomy t 0 with h | rfl | h
  · rw [Int.sign_eq_neg_one_of_neg h, msPeriods, if_neg (fun up => absurd up.1 h.not_gt)]
    by_cases running : phase < t.natAbs <;> simp [running, h]
  · simp [msPeriods]
  · have phases : (phase : Int) < t ↔ phase < t.natAbs := by rw [← Int.ofNat_lt, Int.natAbs_of_nonneg h.le]
    rw [Int.sign_eq_one_of_pos h, msPeriods]
    by_cases running : phase < t.natAbs <;> simp [phases, running, h]

/-- The periods of the first `n` milliseconds of a second: one fewer, or one more, in each of the first `|T|`. -/
theorem sum_msPeriods (t : Int) (n : Nat) : (((List.range n).map (msPeriods t)).sum : Int) =
    4096 * n - t.sign * min n t.natAbs := by
  induction n with
  | zero => simp
  | succ n ih =>
    rw [List.range_succ, List.map_append, List.sum_append, Nat.cast_add, ih, List.map_singleton, List.sum_singleton,
      msPeriods_eq]
    split
    next running => rw [Nat.min_eq_left running.le, Nat.min_eq_left running]; push_cast; ring
    next ended =>
      have ended := Nat.le_of_not_lt ended
      rw [Nat.min_eq_right ended, Nat.min_eq_right (ended.trans n.le_succ)]; push_cast; ring

/-- Settles O14: a trim in range is met within the first 512 milliseconds of the second. -/
theorem secondTakesTrimmedPeriods : Obligations.SecondTakesTrimmedPeriods := by
  refine fun t low high => ⟨?_, fun phase => ?_⟩
  · have all : (min 1000 t.natAbs : Nat) = t.natAbs :=
      Nat.min_eq_right (Int.ofNat_le.1 (by
        rw [Int.natCast_natAbs]
        exact abs_le.2 ⟨le_trans (by decide) low, high.trans (by decide)⟩))
    rw [sum_msPeriods, all, Int.sign_mul_natAbs]
    norm_num
  · unfold msPeriods
    split
    · decide
    · split <;> decide

end Sys2Proof.Machine
end


section
/-! Cue records (R63, R64): what each kind keeps. -/

namespace Sys2Proof.Machine

/-- What a cue record does, by its kind, and whether a setting of it is clamped; none where it is refused (R63). -/
noncomputable def cueAct (b : CueBody) : Option (CueAct × Bool) :=
  let w2 := b.p2.toNat + 256 * b.p3.toNat
  let w4 := b.p4.toNat + 256 * b.p5.toNat
  match b.kind.toNat with
  | 1 => (unit? 48 b.p0.toNat).bind fun first => (unit? 48 b.p1.toNat).bind fun last =>
    if last < first then none
    else some (.lamp first last (min 1000 w2) (min 60000 w4), decide (1000 < w2 ∨ 60000 < w4))
  | 2 => (unit? 12 b.p0.toNat).map fun a =>
    (.axis a (clampTo 1 100 b.p1.toNat) (min 60000 w2), clampTo 1 100 b.p1.toNat != b.p1.toNat || decide (60000 < w2))
  | 3 => (unit? 4 b.p0.toNat).map fun z =>
    (.narrate z (clipOf b.p1) (min 80 b.p2.toNat), decide (80 < b.p2.toNat))
  | 4 => (unit? 4 b.p0.toNat).map fun z =>
    (.ambience z (clampAttenuation b.p1.toNat) (min 10000 w2),
      clampAttenuation b.p1.toNat != b.p1.toNat || decide (10000 < w2))
  | 5 => some (.mark b.p0.toNat, false)
  | 6 => (unit? 64 b.p0.toNat).map fun i => (.request i, false)
  | _ => none

/-- The record that a body gives: its flags where the kind gives them a meaning (R64). -/
noncomputable def cueRecord (b : CueBody) (act : CueAct) : Cue :=
  { delta := b.delta.toNat
    wait := (b.kind == 2#8 || b.kind == 3#8) && b.flags.getLsbD 0
    cut := b.kind == 3#8 && b.flags.getLsbD 1
    occupiedOnly := b.kind == 3#8 && b.flags.getLsbD 2
    act := act }

theorem Byte.eq_of_toNat {x : Byte} (n : Nat) (h : x.toNat = n) : x = BitVec.ofNat 8 n := by
  rw [← h]; simp

theorem cueOf_eq (b : CueBody) : cueOf b = (cueAct b).map fun x => (cueRecord b x.1, x.2) := by
  unfold cueOf cueAct
  dsimp only
  split
  case h_1 h =>
    have hk := Byte.eq_of_toNat 1 h
    cases unit? 48 b.p0.toNat <;> cases unit? 48 b.p1.toNat <;> simp [cueRecord, hk]
    split <;> rfl
  case h_2 h =>
    have hk := Byte.eq_of_toNat 2 h
    cases unit? 12 b.p0.toNat <;> simp [cueRecord, hk]
    exact ⟨rfl, rfl⟩
  case h_3 h =>
    have hk := Byte.eq_of_toNat 3 h
    cases unit? 4 b.p0.toNat <;> simp [cueRecord, hk]
  case h_4 h =>
    have hk := Byte.eq_of_toNat 4 h
    cases unit? 4 b.p0.toNat <;> simp [cueRecord, hk]
    exact ⟨rfl, rfl⟩
  case h_5 h => simp [cueRecord, Byte.eq_of_toNat 5 h]
  case h_6 h =>
    have hk := Byte.eq_of_toNat 6 h
    cases unit? 64 b.p0.toNat <;> simp [cueRecord, hk]
  case h_7 => simp_all

theorem cueOf_keeps {b : CueBody} {act : CueAct} {clamped : Bool} (h : cueAct b = some (act, clamped)) :
    ∃ q, cueOf b = some (q, clamped) ∧ q.act = act :=
  ⟨cueRecord b act, by rw [cueOf_eq, h]; rfl, rfl⟩

theorem cueOf_eq_none (b : CueBody) : cueOf b = none ↔ cueAct b = none := by simp [cueOf_eq]

theorem unit?_eq_none {n k : Nat} : unit? n k = none ↔ ¬(1 ≤ k ∧ k ≤ n) := by
  unfold unit?; split <;> simp_all

/-- The kinds and the identifiers that a cue record passes with (R63). -/
theorem cueAct_eq_none (b : CueBody) : cueAct b = none ↔
    ¬((b.kind.toNat = 1 ∧ 1 ≤ b.p0.toNat ∧ b.p0.toNat ≤ b.p1.toNat ∧ b.p1.toNat ≤ 48) ∨
      (b.kind.toNat = 2 ∧ 1 ≤ b.p0.toNat ∧ b.p0.toNat ≤ 12) ∨
      ((b.kind.toNat = 3 ∨ b.kind.toNat = 4) ∧ 1 ≤ b.p0.toNat ∧ b.p0.toNat ≤ 4) ∨ b.kind.toNat = 5 ∨
      (b.kind.toNat = 6 ∧ 1 ≤ b.p0.toNat ∧ b.p0.toNat ≤ 64)) := by
  unfold cueAct
  dsimp only
  split
  case h_1 h =>
    simp only [h, unit?]
    by_cases h0 : 1 ≤ b.p0.toNat ∧ b.p0.toNat ≤ 48
    · by_cases h1 : 1 ≤ b.p1.toNat ∧ b.p1.toNat ≤ 48
      · simp [h0, h1, ← Fin.val_fin_lt]
      · simp [h0, h1]
        exact fun le => Nat.lt_of_not_le fun high => h1 ⟨h0.1.trans le, high⟩
    · simp [h0]
      exact fun pos le => Nat.lt_of_not_le fun high => h0 ⟨pos, le.trans high⟩
  all_goals simp_all [unit?_eq_none]

theorem Byte.toNat_eq_iff (x : Byte) {n : Nat} (h : n < 256) : x.toNat = n ↔ x = BitVec.ofNat 8 n :=
  ⟨Byte.eq_of_toNat n, fun e => by rw [e]; simpa using h⟩

theorem clampTo_percent (p : Nat) : (clampTo 1 100 p != p) = (decide (p < 1) || decide (100 < p)) := by
  rcases Nat.lt_or_ge 100 p with h | h
  · simp [clampTo, h.le, h, h.ne]
  · obtain rfl | pos := p.eq_zero_or_pos
    · rfl
    · simp [clampTo, Nat.max_eq_right pos, h, h.not_gt, pos.ne']

theorem clampAttenuation_ne (p : Nat) : (clampAttenuation p != p) = (decide (80 < p) && !decide (p = 255)) := by
  unfold clampAttenuation
  split
  next h => simp [h]
  next h =>
    rcases Nat.lt_or_ge 80 p with high | low
    · simp [h, high, high.le, high.ne]
    · simp [low, low.not_gt]

/-- Settles O15: each kind's clause reads its arm of `cueAct`, on which the flags have no effect. -/
theorem cueFlagsKeptByKind : Obligations.CueFlagsKeptByKind := by
  refine ⟨fun b q clamped h => ?_, fun b => ?_⟩
  · rw [cueOf_eq, Option.map_eq_some_iff] at h
    obtain ⟨⟨act, clamped⟩, hact, he⟩ := h
    obtain ⟨rfl, rfl⟩ := Prod.mk.inj he
    refine ⟨rfl, fun hk => ?_, fun hk => ?_, fun h2 h3 => ?_, fun flags => ⟨cueRecord { b with flags := flags } act, ?_⟩⟩
    · simp [cueRecord, hk]
    · simp [cueRecord, hk]
    · simp [cueRecord, h2, h3]
    · rw [cueOf_eq, show cueAct { b with flags := flags } = cueAct b from rfl, hact]
      rfl
  · refine ⟨fun first last hk h0 h1 hle => cueOf_keeps ?_, fun a hk h0 => cueOf_keeps ?_, fun z clip hk h0 h1 =>
      cueOf_keeps ?_, fun z hk h0 => cueOf_keeps ?_, fun hk => cueOf_keeps ?_, fun i hk h0 => cueOf_keeps ?_, ?_⟩
    · simp [cueAct, hk, ← h0, ← h1, hle]
    · simp [cueAct, hk, ← h0, clampTo_percent, ← Bool.or_assoc]
      rfl
    · have : clipOf b.p1 = clip := Fin.ext h1.symm
      simp [cueAct, hk, ← h0, this]
    · simp [cueAct, hk, ← h0, clampAttenuation_ne]
      rfl
    · simp [cueAct, hk]
    · simp [cueAct, hk, ← h0]
    · rw [cueOf_eq_none, cueAct_eq_none]
      simp only [Byte.toNat_eq_iff _ (show 1 < 256 by omega), Byte.toNat_eq_iff _ (show 2 < 256 by omega), 
        Byte.toNat_eq_iff _ (show 3 < 256 by omega), Byte.toNat_eq_iff _ (show 4 < 256 by omega), 
        Byte.toNat_eq_iff _ (show 5 < 256 by omega), Byte.toNat_eq_iff b.kind (show 6 < 256 by omega)]

end Sys2Proof.Machine
end


section
/-! Gain, mix, ducks, ramps and the playing of a millisecond (R126, R132, R133, R135). -/

namespace Sys2Proof.Machine

/-- `g` is the whole number nearest to 32767·10^(-s/40), in terms that the kernel computes on whole numbers. -/
noncomputable def gainCheck (s g : Nat) : Bool :=
  Nat.ble (Nat.mul (Nat.pow (Nat.sub (Nat.mul 2 g) 1) 40) (Nat.pow 10 s)) (Nat.pow 65534 40) &&
    Nat.ble (Nat.succ (Nat.pow 65534 40)) (Nat.mul (Nat.pow (Nat.add (Nat.mul 2 g) 1) 40) (Nat.pow 10 s))

theorem gainCheck_iff (s g : Nat) : gainCheck s g = true ↔
    (2 * g - 1) ^ 40 * 10 ^ s ≤ (2 * 32767) ^ 40 ∧ (2 * 32767) ^ 40 < (2 * g + 1) ^ 40 * 10 ^ s := by
  rw [gainCheck, Bool.and_eq_true, Nat.ble_eq, Nat.ble_eq]
  rfl

/-- The factors from attenuation `s` on. -/
noncomputable def gainsCheck : Nat → List Nat → Bool
  | _, [] => true
  | s, g :: rest => gainCheck s g && gainsCheck (s + 1) rest

theorem gainCheck_of_gainsCheck {gains : List Nat} {s : Nat} (h : gainsCheck s gains = true) :
    ∀ i, i < gains.length → gainCheck (s + i) (gains.getD i 0) = true := by
  induction gains generalizing s with
  | nil => intro i hi; exact absurd hi (Nat.not_lt_zero i)
  | cons g rest ih =>
    rw [gainsCheck, Bool.and_eq_true] at h
    intro i hi
    cases i with
    | zero => exact h.1
    | succ i =>
      have := ih h.2 i (Nat.lt_of_succ_lt_succ hi)
      rwa [Nat.add_right_comm] at this

theorem gainsCheck_table : gainsCheck 0 gainTable = true := by decide +kernel

/-- The table of factors, checked entry by entry on whole numbers (R135). -/
theorem gain_nearest (s : Nat) (h : s ≤ 80) :
    (2 * gain s - 1) ^ 40 * 10 ^ s ≤ (2 * 32767) ^ 40 ∧ (2 * 32767) ^ 40 < (2 * gain s + 1) ^ 40 * 10 ^ s := by
  have check := gainCheck_of_gainsCheck gainsCheck_table s (Nat.lt_succ_of_le h)
  rw [Nat.zero_add] at check
  exact (gainCheck_iff s _).1 check

theorem mixTerm_natAbs (x : Int) (f : Nat) : (mixTerm x f).natAbs = (2 * x.natAbs * f + 32768) / 65536 := by
  unfold mixTerm
  dsimp only
  split
  next => rw [Int.natAbs_neg, Int.natAbs_natCast]
  next => rw [Int.natAbs_natCast]

theorem mixTerm_nonneg {x : Int} (f : Nat) (h : 0 ≤ x) : 0 ≤ mixTerm x f := by
  rw [mixTerm, if_neg (not_lt.2 h)]
  exact Int.natCast_nonneg _

theorem mixTerm_nonpos {x : Int} (f : Nat) (h : x ≤ 0) : mixTerm x f ≤ 0 := by
  rcases h.lt_or_eq with h | rfl
  · rw [mixTerm, if_pos h]
    exact neg_nonpos.2 (Int.natCast_nonneg _)
  · simp [mixTerm]

theorem bedFactor_of_sounding {a : Nat} (d : Nat) (h : a ≤ 80) : bedFactor a d = gain (min 80 (a + d)) :=
  if_neg (by omega)

theorem Duck.value_of_moved {k : Duck} {depth ramp moved : Nat} {now : Stamp}
    (lower : ramp * moved ≤ depth * elapsed now k.t0) (upper : depth * elapsed now k.t0 < ramp * (moved + 1)) :
    k.value depth ramp now = if k.up then min depth (k.start + moved) else k.start - moved := by
  have : depth * elapsed now k.t0 / ramp = moved :=
    Nat.div_eq_of_lt_le (by rwa [Nat.mul_comm]) (by rwa [Nat.mul_comm (moved + 1)])
  rw [Duck.value, this]

theorem Ramp.value_of_over {r : Ramp} {now : Stamp} (h : r.duration ≤ elapsed now r.t0) : r.value now = r.target :=
  if_pos (by simp [Ramp.over, h])

theorem Ramp.value_of_running {r : Ramp} {now : Stamp} (h : elapsed now r.t0 < r.duration) : r.value now =
    if rampEnd r.start ≤ rampEnd r.target
    then rampEnd r.start + (rampEnd r.target - rampEnd r.start) * elapsed now r.t0 / r.duration
    else rampEnd r.start - (rampEnd r.start - rampEnd r.target) * elapsed now r.t0 / r.duration :=
  if_neg (by simp [Ramp.over]; omega)

/-- The whole part of a running ramp's share of its height. -/
theorem share_bounds (n : Nat) {e d : Nat} (h : e < d) :
    n * e / d ≤ n ∧ d * (n * e / d) ≤ n * e ∧ n * e < d * (n * e / d + 1) :=
  ⟨Nat.div_le_of_le_mul (by rw [Nat.mul_comm d]; exact Nat.mul_le_mul_left _ h.le), Nat.mul_div_le _ _,
    Nat.lt_mul_div_succ _ (by omega)⟩

/-- The value of a running ramp lies between its ends, at the whole part of its share of the way (R133). -/
theorem rampStep_bounds {s t e d : Nat} (h : e < d) :
    let v := if s ≤ t then s + (t - s) * e / d else s - (s - t) * e / d
    (s ≤ t → s ≤ v ∧ v ≤ t ∧ d * (v - s) ≤ (t - s) * e ∧ (t - s) * e < d * (v - s + 1)) ∧
      (t ≤ s → t ≤ v ∧ v ≤ s ∧ d * (s - v) ≤ (s - t) * e ∧ (s - t) * e < d * (s - v + 1)) := by
  obtain ⟨up, lower, upper⟩ := share_bounds (t - s) h
  obtain ⟨down, lower', upper'⟩ := share_bounds (s - t) h
  dsimp only
  generalize (t - s) * e / d = p, (s - t) * e / d = q at *
  refine ⟨fun hle => ?_, fun hle => ?_⟩
  · rw [if_pos hle, Nat.add_sub_cancel_left]
    exact ⟨Nat.le_add_right _ _, Nat.add_le_of_le_sub' hle up, lower, upper⟩
  · have way : (if s ≤ t then s + p else s - q) = s - q := by
      split
      next level =>
        rw [Nat.sub_eq_zero_of_le hle, Nat.le_zero] at up
        rw [Nat.sub_eq_zero_of_le level, Nat.le_zero] at down
        rw [up, down]; rfl
      next => rfl
    rw [way, Nat.sub_sub_self (down.trans (Nat.sub_le s t))]
    exact ⟨Nat.le_sub_of_add_le (Nat.add_le_of_le_sub' hle down), Nat.sub_le _ _, lower', upper'⟩

/-- A ramp that is over is idle at its target, which is its value. -/
@[simp] theorem Ramp.settle_value (r : Ramp) (now : Stamp) : (r.settle now).value now = r.value now := by
  unfold Ramp.settle
  split
  next h =>
    rw [Ramp.value_of_over (Nat.zero_le _), Ramp.value, if_pos h]
    rfl
  next => rfl

@[simp] theorem elapsed_self (now : Stamp) : elapsed now now = 0 := by simp [elapsed]

/-- A duck that has reached its end has its value there. -/
@[simp] theorem Duck.settle_value (k : Duck) (depth ramp : Nat) (now : Stamp) :
    (k.settle depth ramp now).value depth ramp now = k.value depth ramp now := by
  rw [Duck.settle]
  by_cases h : k.value depth ramp now = if k.up then depth else 0
  · rw [if_pos h, h]
    cases hu : k.up <;> simp [Duck.value]
  · rw [if_neg h]

/-! One sample of a buffer. -/

/-- The sample that a buffer gives in a sample period: 0 past its length. -/
noncomputable def Buffer.gives (b : Buffer) : Int := if b.length ≤ b.position then 0 else b.sample

/-- The buffer after `n` samples. -/
noncomputable def Buffer.after (b : Buffer) (n : Nat) : Buffer := (fun x : Buffer => x.advance.1)^[n] b

/-- The slots freed in `n` sample periods. -/
noncomputable def Buffer.frees (b : Buffer) (n : Nat) : Nat := ((List.range n).map fun k => (b.after k).advance.2).sum

theorem Buffer.play_eq (n : Nat) (b : Buffer) :
    b.play n = ((List.range n).map fun k => (b.after k).gives, b.after n, b.frees n) :=
  Prod.ext (Buffer.play_samples n b) (Prod.ext (Buffer.play_buffer n b) (Buffer.play_freed n b))

theorem Buffer.advance_ended {b : Buffer} (h : b.length ≤ b.position) : b.advance = (b, 0) := if_pos h

theorem Buffer.advance_within {b : Buffer} (h : b.position + 1 < b.length) :
    b.advance = if (b.position + 1) % 256 = 0 then ({ b.free with position := b.position + 1 }, 1)
      else ({ b with position := b.position + 1 }, 0) := by
  rw [Buffer.advance, if_neg (by omega), if_neg (by omega)]

theorem Buffer.advance_last {b : Buffer} (h : b.position + 1 = b.length) :
    b.advance = if b.loops then ({ b.free with position := 0 }, 1) else ({ b with position := b.length }, 0) := by
  rw [Buffer.advance, if_neg (by omega), if_pos h, h]

/-! One millisecond of every zone. -/

/-- The samples of a zone's voice and bed in a sample period, each 0 where there is none. -/
noncomputable def SoundZoneState.sample (x : SoundZoneState) (now : Stamp) (n : Nat) : Int :=
  saturate (mixTerm (x.voice.elim 0 fun v => (v.buffer.after n).gives) (x.voice.elim 0 fun v => gain v.item.attenuation)
    + mixTerm (x.bed.elim 0 fun b => (b.after n).gives) (bedFactor (x.ramp.value now) (x.duckValue now)))

theorem SoundZoneState.sample_eq (x : SoundZoneState) (now : Stamp) : x.sample now = fun n =>
    saturate (mixTerm (x.voice.elim 0 fun v => (v.buffer.after n).gives) (x.voice.elim 0 fun v => gain v.item.attenuation)
      + mixTerm (x.bed.elim 0 fun b => (b.after n).gives) (bedFactor (x.ramp.value now) (x.duckValue now))) := rfl

/-- A zone after a millisecond. -/
noncomputable def SoundZoneState.played (x : SoundZoneState) (now : Stamp) : SoundZoneState :=
  { x with
    voice := x.voice.map fun v => { v with buffer := v.buffer.after 24 }, bed := x.bed.map fun b => b.after 24,
    ramp := x.ramp.settle now, duck := x.duck.settle x.defn.depth x.defn.ramp now,
    output := if x.muted then silentMillisecond else (List.range 24).map (x.sample now) }

theorem SoundZoneState.millisecond_eq (x : SoundZoneState) (now : Stamp) : x.millisecond now =
    (x.played now, x.voice.elim 0 fun v => v.buffer.frees 24, x.bed.elim 0 fun b => b.frees 24) := by
  have silence : silentMillisecond = (List.range 24).map fun _ => (0 : Int) := by simp [silentMillisecond]
  have samples (f g : Nat → Int) (k : Int × Int → Int) :
      (((List.range 24).map f).zip ((List.range 24).map g)).map k = (List.range 24).map fun n => k (f n, g n) := by
    rw [List.zip_map', List.map_map]; rfl
  unfold SoundZoneState.millisecond SoundZoneState.played
  cases hv : x.voice <;> cases hb : x.bed <;>
    simp only [Buffer.play_eq, silence, samples, Option.elim, Option.map] <;>
    simp only [SoundZoneState.sample_eq, hv, hb, Option.elim]

/-- A read for a slot of one of these buffers, after their first slots, as many as `k` says, have been freed. -/
noncomputable def FlashRead.freedIn (k : Fin 8 → Nat) (buffers : List (Fin 8)) (r : FlashRead) : FlashRead := match r.target with
  | .slot b (some i) =>
    if b ∈ buffers then { r with target := .slot b (if k b ≤ i then some (i - k b) else none) } else r
  | _ => r

@[simp] theorem FlashRead.freedIn_nil (k : Fin 8 → Nat) (r : FlashRead) : r.freedIn k [] = r := by
  unfold FlashRead.freedIn
  split <;> simp

/-- A buffer's slots are freed after those of others. -/
theorem FlashRead.freedIn_concat (k : Fin 8 → Nat) {bs : List (Fin 8)} {b : Fin 8} (h : b ∉ bs) (r : FlashRead) :
    (r.freedIn k bs).freedIn k [b] = r.freedIn k (bs ++ [b]) := by
  obtain ⟨issued, target, block⟩ := r
  rcases target with ⟨c, _ | i⟩ | _
  · rfl
  · by_cases hc : c ∈ bs
    · have hb : c ≠ b := fun e => h (e ▸ hc)
      by_cases hk : k c ≤ i <;> simp [FlashRead.freedIn, hc, hb, hk]
    · simp [FlashRead.freedIn, hc]
  · rfl

theorem Mixer.freed_eq (m : Mixer) (b : Fin 8) (k : Fin 8 → Nat) :
    m.freed b (k b) = { m with read := m.read.map (FlashRead.freedIn k [b]) } := by
  unfold Mixer.freed
  congr 2
  funext r
  obtain ⟨issued, target, block⟩ := r
  rcases target with ⟨c, _ | i⟩ | _
  · rfl
  · by_cases hc : c = b <;> simp [FlashRead.freedIn, hc]
  · rfl

/-- The slots that a buffer of the Mixer frees in a millisecond. -/
noncomputable def Mixer.frees (m : Mixer) (b : Fin 8) : Nat := (m.buffer b).elim 0 fun x => x.frees 24

/-- The Mixer with a millisecond played in these zones. -/
noncomputable def Mixer.playedIn (m : Mixer) (now : Stamp) (zones : List SoundZone) : Mixer :=
  { m with
    zones := .ofFn fun z => if z ∈ zones then (m.zones.get z).played now else m.zones.get z,
    read := m.read.map (FlashRead.freedIn m.frees (zones.flatMap fun z => [voiceBuffer z, bedBuffer z])) }

theorem Mixer.frees_voice (m : Mixer) (z : SoundZone) :
    m.frees (voiceBuffer z) = (m.zones.get z).voice.elim 0 fun v => v.buffer.frees 24 := by
  have zone : bufferZone (voiceBuffer z) = z := Fin.ext (Nat.mod_eq_of_lt z.isLt)
  have low : (voiceBuffer z).val < 4 := z.isLt
  unfold Mixer.frees Mixer.buffer
  rw [zone, if_pos low]
  cases (m.zones.get z).voice <;> rfl

theorem Mixer.frees_bed (m : Mixer) (z : SoundZone) :
    m.frees (bedBuffer z) = (m.zones.get z).bed.elim 0 fun b => b.frees 24 := by
  have zone : bufferZone (bedBuffer z) = z := Fin.ext (by have := z.isLt; simp [bufferZone, bedBuffer])
  have high : ¬(bedBuffer z).val < 4 := by simp [bedBuffer]
  unfold Mixer.frees Mixer.buffer
  rw [zone, if_neg high]

/-- A millisecond of one zone. -/
noncomputable def Mixer.playZone (now : Stamp) (m : Mixer) (z : SoundZone) : Mixer :=
  let (x, kv, kb) := (m.zones.get z).millisecond now
  (({ m with zones := m.zones.set z x }).freed (voiceBuffer z) kv).freed (bedBuffer z) kb

theorem Mixer.playZone_playedIn (m : Mixer) (now : Stamp) {zones : List SoundZone} {z : SoundZone} (h : z ∉ zones) :
    (m.playedIn now zones).playZone now z = m.playedIn now (zones ++ [z]) := by
  have here : (m.playedIn now zones).zones.get z = m.zones.get z := by simp [Mixer.playedIn, h]
  have apart (x : SoundZone) (hx : x ∈ zones) : x.val ≠ z.val := fun e => h (Fin.ext e ▸ hx)
  have voice : voiceBuffer z ∉ zones.flatMap fun z => [voiceBuffer z, bedBuffer z] := by
    simp only [List.mem_flatMap, not_exists, not_and]
    intro x hx
    have := apart x hx
    simp [voiceBuffer, bedBuffer]
    omega
  have bed : bedBuffer z ∉ (zones.flatMap fun z => [voiceBuffer z, bedBuffer z]) ++ [voiceBuffer z] := by
    simp only [List.mem_append, List.mem_flatMap, not_or, not_exists, not_and]
    refine ⟨fun x hx => ?_, by simp [voiceBuffer, bedBuffer]⟩
    have := apart x hx
    simp [voiceBuffer, bedBuffer]
    omega
  rw [Mixer.playZone, here, SoundZoneState.millisecond_eq, ← Mixer.frees_voice, ← Mixer.frees_bed]
  dsimp only
  rw [Mixer.freed_eq, Mixer.freed_eq]
  unfold Mixer.playedIn
  congr 1
  · ext x
    simp only [Table.get_set, Table.get_ofFn, List.mem_append, List.mem_singleton]
    by_cases e : z = x
    · simp [e]
    · simp [e, Ne.symm e]
  · simp only [Option.map_map]
    congr 1
    funext r
    simp only [Function.comp, FlashRead.freedIn_concat _ voice, FlashRead.freedIn_concat _ bed]
    simp

theorem Mixer.foldl_playZone (m : Mixer) (now : Stamp) (zones : List SoundZone) (h : zones.Nodup) :
    zones.foldl (Mixer.playZone now) m = m.playedIn now zones := by
  induction zones using List.reverseRecOn with
  | nil =>
    have keep : (Table.ofFn fun z => m.zones.get z) = m.zones := Table.ext_get _ _ (by simp)
    have read : (FlashRead.freedIn m.frees []) = id := funext (FlashRead.freedIn_nil _)
    simp [Mixer.playedIn, keep, read]
  | append_singleton zones z ih =>
    rw [List.foldl_append, ih (h.sublist (by simp)), List.foldl_cons, List.foldl_nil]
    exact m.playZone_playedIn now (by simp [List.nodup_append] at h; tauto)


theorem Mixer.millisecond_eq (m : Mixer) (now : Stamp) : m.millisecond now = m.playedIn now (units 4) :=
  m.foldl_playZone now (units 4) (List.nodup_finRange 4)

theorem Mixer.millisecond_zone (m : Mixer) (now : Stamp) (z : SoundZone) :
    (m.millisecond now).zones.get z = (m.zones.get z).played now := by
  simp [Mixer.millisecond_eq, Mixer.playedIn]

/-- Every buffer belongs to a zone. -/
theorem mem_zone_buffers (b : Fin 8) : b ∈ (units 4).flatMap fun z => [voiceBuffer z, bedBuffer z] := by
  revert b; decide

/-- Settles O17: each clause is a law above; a millisecond plays every zone and frees each buffer's slots once. -/
theorem gainAndMixAreNearest : Obligations.GainAndMixAreNearest := by
  refine ⟨gain_nearest, rfl, fun a d ha => ?bed, fun x f => ?mix, fun v => ?sat,
    fun k depth ramp moved now lower upper => ?duck, fun r now => ?ramp, fun b => ?buffer, fun m now => ?millisecond⟩
  case bed =>
    rw [bedFactor_of_sounding d ha]
    exact ⟨fun h => by rw [min_eq_right h], fun h => by rw [min_eq_left h]; rfl, rfl⟩
  case mix =>
    rw [mixTerm_natAbs]
    exact ⟨by omega, by omega, mixTerm_nonneg f, mixTerm_nonpos f⟩
  case sat =>
    exact ⟨le_max_left _ _, max_le (by decide) (min_le_left _ _),
      fun low high => by rw [saturate, min_eq_right high, max_eq_right low],
      fun h => by rw [saturate, min_eq_left h]; rfl,
      fun h => by rw [saturate, max_eq_left ((min_le_right _ _).trans h)]⟩
  case duck =>
    rw [Duck.value_of_moved lower upper]
    refine ⟨fun h => if_pos h, fun h => if_neg (by simp [h]), fun h => ?_⟩
    split
    next => exact Nat.min_le_left _ _
    next => exact (Nat.sub_le _ _).trans h
  case ramp =>
    refine ⟨Ramp.value_of_over, fun h => ?_⟩
    rw [Ramp.value_of_running h]
    exact rampStep_bounds h
  case buffer =>
    refine ⟨Buffer.advance_ended, fun h hn => ?_, fun h hn => ?_, fun h hl => ?_, fun h hl => ?_⟩
    · rw [Buffer.advance_within h, if_neg hn]
    · rw [Buffer.advance_within h, if_pos hn]; rfl
    · rw [Buffer.advance_last h, if_pos hl]; rfl
    · rw [Buffer.advance_last h, if_neg (by simp [hl])]
  case millisecond =>
    refine ⟨?_, ⟨_, _, m.millisecond_eq now⟩, fun z =>
      ⟨_, _, (m.millisecond_zone now z).trans ?_, Ramp.settle_value _ now, Duck.settle_value _ _ _ now⟩⟩
    · rw [Mixer.millisecond_eq]
      show Option.map _ _ = _
      congr 1
      funext r
      obtain ⟨issued, target, block⟩ := r
      rcases target with ⟨c, _ | i⟩ | _
      · rfl
      · exact if_pos (mem_zone_buffers c)
      · rfl
    · rfl

end Sys2Proof.Machine
end


section
/-! Requests: the command that a frame carries, the general checks by the kind of a request (R161, R163), and the
requests whose own rules order those checks (R55, R57, R96, R121, R137). -/

namespace Sys2Proof.Machine

/-! The command that a frame carries. -/

/-- The kinds of the requests of both links (section 12.2). -/
noncomputable def requestKinds : List Nat :=
  List.range' 0x01 11 ++ (List.range' 0x10 15 ++ (List.range' 0x20 15 ++ List.range' 0x30 3))

theorem isRequestKind_iff (p : Port) (n : Nat) : isRequestKind p n = true ↔
    n ∈ requestKinds ∨ p = .serviceLink ∧ (n = 0x38 ∨ n = 0x39) := by
  simp only [isRequestKind, requestKinds, List.mem_append, List.mem_range'_1, Bool.or_eq_true, Bool.and_eq_true,
    decide_eq_true_eq, or_assoc, Nat.reduceAdd, Nat.lt_succ_iff]

/-- A property of every kind of request of a port. -/
theorem forall_requestKind {p : Port} {P : Byte → Prop} (common : ∀ n ∈ requestKinds, P (BitVec.ofNat 8 n))
    (take : p = .serviceLink → P 0x38) (give : p = .serviceLink → P 0x39) {kind : Byte}
    (h : isRequestKind p kind.toNat = true) : P kind := by
  have self : BitVec.ofNat 8 kind.toNat = kind := BitVec.eq_of_toNat_eq (Nat.mod_eq_of_lt kind.isLt)
  rcases (isRequestKind_iff p kind.toNat).1 h with h | ⟨hp, h | h⟩
  · exact self ▸ common kind.toNat h
  · exact self ▸ h ▸ take hp
  · exact self ▸ h ▸ give hp

section
variable (s : State) (p : Port) (body : List Byte)

/-- What a frame of a kind does is what the command does that it carries. -/
def Decodes (n : Nat) : Prop :=
  s.frame p (BitVec.ofNat 8 n) body = exec (frameCommand p (BitVec.ofNat 8 n) body) s

theorem decodes_query : (List.range' 0x01 11).Forall (Decodes s p body) :=
  ⟨rfl, rfl, rfl, rfl, rfl, rfl, rfl, rfl, rfl, rfl, rfl⟩

theorem decodes_define : (List.range' 0x10 15).Forall (Decodes s p body) :=
  ⟨rfl, rfl, rfl, rfl, rfl, rfl, rfl, rfl, rfl, rfl, rfl, rfl, rfl, rfl, rfl⟩

theorem decodes_show : (List.range' 0x20 15).Forall (Decodes s p body) :=
  ⟨rfl, rfl, rfl, rfl, rfl, rfl, rfl, rfl, rfl, rfl, rfl, rfl, rfl, rfl, rfl⟩

theorem decodes_service : (List.range' 0x30 3).Forall (Decodes s p body) := ⟨rfl, rfl, rfl⟩

theorem decodes_requestKinds : requestKinds.Forall (Decodes s p body) := by
  simp only [requestKinds, List.forall_append]
  exact ⟨decodes_query s p body, decodes_define s p body, decodes_show s p body, decodes_service s p body⟩

/-- A frame does what the command does that it carries. -/
theorem State.frame_eq_exec (kind : Byte) : s.frame p kind body = exec (frameCommand p kind body) s := by
  by_cases h : isRequestKind p kind.toNat
  · exact forall_requestKind (P := fun kind => s.frame p kind body = exec (frameCommand p kind body) s)
      (List.forall_iff_forall_mem.1 (decodes_requestKinds s p body)) (by rintro rfl; rfl) (by rintro rfl; rfl) h
  · unfold State.frame frameCommand
    rw [if_pos (by simpa using h), if_pos (by simpa using h)]
    rfl

end

/-- The port and the kind of a request that a command is. -/
noncomputable def portKind (c : Instr) : Option (Port × Nat) := (requestOf c).map fun r => (r.1.port, r.2)

theorem portKind_requestKinds (p : Port) (body : List Byte) :
    (requestKinds.map fun n => portKind (frameCommand p (BitVec.ofNat 8 n) body)) =
      requestKinds.map fun n => some (p, (BitVec.ofNat 8 n).toNat) := rfl

/-- The command that a frame of a request kind carries is the request of that port and kind. -/
theorem requestOf_frameCommand (p : Port) {kind : Byte} (body : List Byte) (h : isRequestKind p kind.toNat = true) :
    ∃ ok, requestOf (frameCommand p kind body) = some ({ port := p, lengthOk := ok }, kind.toNat) := by
  have same : portKind (frameCommand p kind body) = some (p, kind.toNat) :=
    forall_requestKind (P := fun kind => portKind (frameCommand p kind body) = some (p, kind.toNat))
      (List.map_inj_left.1 (portKind_requestKinds p body)) (by rintro rfl; rfl) (by rintro rfl; rfl) h
  obtain ⟨⟨⟨p', ok⟩, k⟩, found, e⟩ := Option.map_eq_some_iff.1 same
  cases e
  exact ⟨ok, found⟩

/-! The general checks and the first own checks of a request, by its kind. -/

/-- The general checks of a request of a kind (R163). -/
noncomputable def gateOf (kind : Nat) : Gate :=
  if 0x10 ≤ kind ∧ kind ≤ 0x1E then { Gate.define with length := decide (kind ≠ 0x14) }
  else if kind = 0x20 ∨ kind = 0x21 then { Gate.owned with mode := showMode }
  else if kind = 0x2B ∨ kind = 0x2C then { Gate.owned with mode := settingMode, store := true }
  else if kind = 0x2D then { Gate.owned with mode := homingMode }
  else if kind = 0x2E then { Gate.owned with store := true }
  else if (0x24 ≤ kind ∧ kind ≤ 0x2A) ∨ kind = 0x39 then Gate.owned
  else if kind = 0x38 then { Gate.free with mode := takeMode }
  else Gate.free

/-- What the own rule of RESUME SHOW checks first, in its order (R55). -/
noncomputable def State.resumeRefusal (s : State) (p : Port) : Option ReplyCode :=
  if s.sched.mode ≠ .standstill then some .wrongMode
  else (s.controlRefusal p).or (if s.supervisor.estop.active then some .estopActive else none)

/-- What a request's own rule checks first where that rule orders the general checks (R55, R96, R121, R137). -/
noncomputable def State.ownRefusal (s : State) (p : Port) (kind : Nat) : Option ReplyCode :=
  if kind = 0x22 then s.resumeRefusal p
  else if kind = 0x30 ∨ kind = 0x31 ∨ kind = 0x32 then s.serviceRefusal p
  else none

/-- The first check of its own of a request whose own rule orders the general checks. -/
theorem Taken.refuse_of_eq_some {s : State} {x : Option ReplyCode} {code : ReplyCode} {rest : Taken} : x = some code →
    (match x with | some c => Taken.refuse s c | none => rest) = Taken.refuse s code := by
  rintro rfl; rfl


/-- A command comes, after the general checks of its kind, to a rule of its own, which begins with the checks that
it orders itself. -/
def Ruled (f : State → Host.Outcome State Fault Refusal) (h : FrameHead) (kind : Nat) : Prop :=
  ∃ own : State → Taken, (∀ s, f s = s.request h kind (gateOf kind) own) ∧
    ∀ s code, s.ownRefusal h.port kind = some code → own s = .refuse s code

/-- A request whose rule leaves the general checks in their order. -/
theorem ruled_request {f : State → Host.Outcome State Fault Refusal} {h : FrameHead} {kind : Nat} {own : State → Taken}
    (e : ∀ s, f s = s.request h kind (gateOf kind) own) (plain : ∀ s p, State.ownRefusal s p kind = none) :
    Ruled f h kind :=
  ⟨own, e, fun s _ r => nomatch (plain s h.port).symm.trans r⟩

/-- A query answered in its event. -/
theorem ruled_query {f : State → Host.Outcome State Fault Refusal} {h : FrameHead} {kind : Nat}
    {answer : State → ReplyCode × ReplyBody} (e : ∀ s, f s = s.query h kind answer)
    (free : gateOf kind = Gate.query) (plain : ∀ s p, State.ownRefusal s p kind = none) : Ruled f h kind :=
  ruled_request (fun s => by rw [e, free]; rfl) plain

/-- What a command's being a request comes to. -/
def RuledByKind (c : Instr) : Prop :=
  match requestOf c with
  | some (h, kind) => Ruled (exec c) h kind
  | none => True

theorem ruled_queryStatus h : RuledByKind (.queryStatus h) :=
  ruled_query (f := execQueryStatus h) (fun _ => rfl) rfl fun _ _ => rfl

theorem ruled_queryZones h : RuledByKind (.queryZones h) :=
  ruled_query (f := execQueryZones h) (fun _ => rfl) rfl fun _ _ => rfl

theorem ruled_queryScene h scene : RuledByKind (.queryScene h scene) :=
  ruled_query (f := execQueryScene h scene) (fun _ => rfl) rfl fun _ _ => rfl

theorem ruled_queryQueue h part : RuledByKind (.queryQueue h part) :=
  ruled_query (f := execQueryQueue h part) (fun _ => rfl) rfl fun _ _ => rfl

theorem ruled_queryTracks h ctx : RuledByKind (.queryTracks h ctx) :=
  ruled_query (f := execQueryTracks h ctx) (fun _ => rfl) rfl fun _ _ => rfl

theorem ruled_readCues h list offset count : RuledByKind (.readCues h list offset count) :=
  ruled_query (f := execReadCues h list offset count) (fun _ => rfl) rfl fun _ _ => rfl

theorem ruled_queryLevels h : RuledByKind (.queryLevels h) :=
  ruled_query (f := execQueryLevels h) (fun _ => rfl) rfl fun _ _ => rfl

theorem ruled_queryAxes h : RuledByKind (.queryAxes h) :=
  ruled_query (f := execQueryAxes h) (fun _ => rfl) rfl fun _ _ => rfl

theorem ruled_queryAudio h clip : RuledByKind (.queryAudio h clip) :=
  ruled_query (f := execQueryAudio h clip) (fun _ => rfl) rfl fun _ _ => rfl

theorem ruled_queryHealth h : RuledByKind (.queryHealth h) :=
  ruled_request (f := execQueryHealth h) (fun _ => rfl) fun _ _ => rfl

theorem ruled_queryClock h : RuledByKind (.queryClock h) :=
  ruled_query (f := execQueryClock h) (fun _ => rfl) rfl fun _ _ => rfl

theorem ruled_defineInput h b : RuledByKind (.defineInput h b) :=
  ruled_request (f := execDefineInput h b) (fun _ => rfl) fun _ _ => rfl

theorem ruled_defineZone h zone hold : RuledByKind (.defineZone h zone hold) :=
  ruled_request (f := execDefineZone h zone hold) (fun _ => rfl) fun _ _ => rfl

theorem ruled_defineScene h b : RuledByKind (.defineScene h b) :=
  ruled_request (f := execDefineScene h b) (fun _ => rfl) fun _ _ => rfl

theorem ruled_sizeCueList h list length : RuledByKind (.sizeCueList h list length) :=
  ruled_request (f := execSizeCueList h list length) (fun _ => rfl) fun _ _ => rfl

theorem ruled_writeCues h list offset count cues : RuledByKind (.writeCues h list offset count cues) :=
  ruled_request (f := execWriteCues h list offset count cues) (fun _ => rfl) fun _ _ => rfl

theorem ruled_defineChannel h b : RuledByKind (.defineChannel h b) :=
  ruled_request (f := execDefineChannel h b) (fun _ => rfl) fun _ _ => rfl

theorem ruled_defineLampGroup h b : RuledByKind (.defineLampGroup h b) :=
  ruled_request (f := execDefineLampGroup h b) (fun _ => rfl) fun _ _ => rfl

theorem ruled_defineAxis h b : RuledByKind (.defineAxis h b) :=
  ruled_request (f := execDefineAxis h b) (fun _ => rfl) fun _ _ => rfl

theorem ruled_defineSoundZone h b : RuledByKind (.defineSoundZone h b) :=
  ruled_request (f := execDefineSoundZone h b) (fun _ => rfl) fun _ _ => rfl

theorem ruled_defineSensor h b : RuledByKind (.defineSensor h b) :=
  ruled_request (f := execDefineSensor h b) (fun _ => rfl) fun _ _ => rfl

theorem ruled_defineAxisGroup h group sensor : RuledByKind (.defineAxisGroup h group sensor) :=
  ruled_request (f := execDefineAxisGroup h group sensor) (fun _ => rfl) fun _ _ => rfl

theorem ruled_defineTimetableEntry h b : RuledByKind (.defineTimetableEntry h b) :=
  ruled_request (f := execDefineTimetableEntry h b) (fun _ => rfl) fun _ _ => rfl

theorem ruled_beginClip h clip length : RuledByKind (.beginClip h clip length) :=
  ruled_request (f := execBeginClip h clip length) (fun _ => rfl) fun _ _ => rfl

theorem ruled_writeClip h clip offset count data : RuledByKind (.writeClip h clip offset count data) :=
  ruled_request (f := execWriteClip h clip offset count data) (fun _ => rfl) fun _ _ => rfl

theorem ruled_storeShow h : RuledByKind (.storeShow h) :=
  ruled_request (f := execStoreShow h) (fun _ => rfl) fun _ _ => rfl

theorem ruled_openShow h : RuledByKind (.openShow h) :=
  ruled_request (f := execOpenShow h) (fun _ => rfl) fun _ _ => rfl

theorem ruled_closeShow h form : RuledByKind (.closeShow h form) :=
  ruled_request (f := execCloseShow h form) (fun _ => rfl) fun _ _ => rfl

theorem ruled_resumeShow h : RuledByKind (.resumeShow h) := by
  refine ⟨_, fun s => (rfl : execResumeShow h s = s.request h _ _ _), fun s code e => ?_⟩
  have e : s.resumeRefusal h.port = some code := e
  unfold State.resumeRefusal at e
  by_cases hm : s.sched.mode = .standstill
  · rw [if_neg (not_not.2 hm)] at e ⊢
    cases hr : s.controlRefusal h.port <;> rw [hr] at e
    · by_cases ha : s.supervisor.estop.active
      · rw [Option.none_or, if_pos ha] at e; cases e; exact if_pos ha
      · rw [Option.none_or, if_neg ha] at e; cases e
    · cases e; rfl
  · rw [if_pos hm] at e ⊢; cases e; rfl

theorem ruled_startScene h scene : RuledByKind (.startScene h scene) :=
  ruled_request (f := execStartScene h scene) (fun _ => rfl) fun _ _ => rfl

theorem ruled_stopScene h scene form : RuledByKind (.stopScene h scene form) :=
  ruled_request (f := execStopScene h scene form) (fun _ => rfl) fun _ _ => rfl

theorem ruled_enableScene h scene : RuledByKind (.enableScene h scene) :=
  ruled_request (f := execEnableScene h scene) (fun _ => rfl) fun _ _ => rfl

theorem ruled_disableScene h scene : RuledByKind (.disableScene h scene) :=
  ruled_request (f := execDisableScene h scene) (fun _ => rfl) fun _ _ => rfl

theorem ruled_collectPresses h : RuledByKind (.collectPresses h) :=
  ruled_request (f := execCollectPresses h) (fun _ => rfl) fun _ _ => rfl

theorem ruled_acknowledgeFaults h count latches : RuledByKind (.acknowledgeFaults h count latches) :=
  ruled_request (f := execAcknowledgeFaults h count latches) (fun _ => rfl) fun _ _ => rfl

theorem ruled_setTime h timeOfDay weekday : RuledByKind (.setTime h timeOfDay weekday) :=
  ruled_request (f := execSetTime h timeOfDay weekday) (fun _ => rfl) fun _ _ => rfl

theorem ruled_setTrim h trim : RuledByKind (.setTrim h trim) :=
  ruled_request (f := execSetTrim h trim) (fun _ => rfl) fun _ _ => rfl

theorem ruled_setMaster h group level : RuledByKind (.setMaster h group level) :=
  ruled_request (f := execSetMaster h group level) (fun _ => rfl) fun _ _ => rfl

theorem ruled_setBase h first last level fade : RuledByKind (.setBase h first last level fade) :=
  ruled_request (f := execSetBase h first last level fade) (fun _ => rfl) fun _ _ => rfl

theorem ruled_homeAxes h axes : RuledByKind (.homeAxes h axes) :=
  ruled_request (f := execHomeAxes h axes) (fun _ => rfl) fun _ _ => rfl

theorem ruled_restart h : RuledByKind (.restart h) := ruled_request (f := execRestart h) (fun _ => rfl) fun _ _ => rfl

theorem ruled_testLevel h first last level : RuledByKind (.testLevel h first last level) :=
  ⟨_, fun s => (rfl : execTestLevel h first last level s = s.request h _ _ _), fun _ _ e => Taken.refuse_of_eq_some e⟩

theorem ruled_jogAxis h axis speed target : RuledByKind (.jogAxis h axis speed target) :=
  ⟨_, fun s => (rfl : execJogAxis h axis speed target s = s.request h _ _ _), fun _ _ e => Taken.refuse_of_eq_some e⟩

theorem ruled_playClip h zone clip attenuation : RuledByKind (.playClip h zone clip attenuation) :=
  ⟨_, fun s => (rfl : execPlayClip h zone clip attenuation s = s.request h _ _ _), fun _ _ e => Taken.refuse_of_eq_some e⟩

theorem ruled_takeControl lengthOk form : RuledByKind (.takeControl lengthOk form) :=
  ruled_request (f := execTakeControl lengthOk form) (fun _ => rfl) fun _ _ => rfl

theorem ruled_giveBack lengthOk : RuledByKind (.giveBack lengthOk) :=
  ruled_request (f := execGiveBack lengthOk) (fun _ => rfl) fun _ _ => rfl

theorem ruledByKind (c : Instr) : RuledByKind c := by
  cases c
  case queryStatus => exact ruled_queryStatus _
  case queryZones => exact ruled_queryZones _
  case queryScene => exact ruled_queryScene _ _
  case queryQueue => exact ruled_queryQueue _ _
  case queryTracks => exact ruled_queryTracks _ _
  case readCues => exact ruled_readCues _ _ _ _
  case queryLevels => exact ruled_queryLevels _
  case queryAxes => exact ruled_queryAxes _
  case queryAudio => exact ruled_queryAudio _ _
  case queryHealth => exact ruled_queryHealth _
  case queryClock => exact ruled_queryClock _
  case defineInput => exact ruled_defineInput _ _
  case defineZone => exact ruled_defineZone _ _ _
  case defineScene => exact ruled_defineScene _ _
  case sizeCueList => exact ruled_sizeCueList _ _ _
  case writeCues => exact ruled_writeCues _ _ _ _ _
  case defineChannel => exact ruled_defineChannel _ _
  case defineLampGroup => exact ruled_defineLampGroup _ _
  case defineAxis => exact ruled_defineAxis _ _
  case defineSoundZone => exact ruled_defineSoundZone _ _
  case defineSensor => exact ruled_defineSensor _ _
  case defineAxisGroup => exact ruled_defineAxisGroup _ _ _
  case defineTimetableEntry => exact ruled_defineTimetableEntry _ _
  case beginClip => exact ruled_beginClip _ _ _
  case writeClip => exact ruled_writeClip _ _ _ _ _
  case storeShow => exact ruled_storeShow _
  case openShow => exact ruled_openShow _
  case closeShow => exact ruled_closeShow _ _
  case resumeShow => exact ruled_resumeShow _
  case startScene => exact ruled_startScene _ _
  case stopScene => exact ruled_stopScene _ _ _
  case enableScene => exact ruled_enableScene _ _
  case disableScene => exact ruled_disableScene _ _
  case collectPresses => exact ruled_collectPresses _
  case acknowledgeFaults => exact ruled_acknowledgeFaults _ _ _
  case setTime => exact ruled_setTime _ _ _
  case setTrim => exact ruled_setTrim _ _
  case setMaster => exact ruled_setMaster _ _ _
  case setBase => exact ruled_setBase _ _ _ _ _
  case homeAxes => exact ruled_homeAxes _ _
  case restart => exact ruled_restart _
  case testLevel => exact ruled_testLevel _ _ _ _
  case jogAxis => exact ruled_jogAxis _ _ _ _
  case playClip => exact ruled_playClip _ _ _ _
  case takeControl => exact ruled_takeControl _ _
  case giveBack => exact ruled_giveBack _
  all_goals exact trivial

/-- Every request is a frame taken, checked by its kind, and then decided by a rule of its own. -/
theorem exec_request {c : Instr} {h : FrameHead} {kind : Nat} (hc : requestOf c = some (h, kind)) :
    ∃ own : State → Taken, (∀ s, exec c s = s.request h kind (gateOf kind) own) ∧
      ∀ s code, s.ownRefusal h.port kind = some code → own s = .refuse s code := by
  have ruled := ruledByKind c
  rw [RuledByKind, hc] at ruled
  exact ruled

end Sys2Proof.Machine
end


section
/-! The order of the checks (R161 to R163, R169): BUSY while loading, the general checks, and QUERY STATUS. -/

namespace Sys2Proof.Machine

/-- The reply to a request refused in a quiet part. -/
theorem State.takeFrame_busy {s : State} {p : Port} {kind : Nat} {status : Bool}
    {decision : State → Host.Outcome State Fault Refusal} (hq : s.quiet = true) (hr : (s.port p).replies.length < 3)
    (hb : s.portBusy p status = true) :
    s.takeFrame p kind status decision = .next ((s.heard p).answered p (replyKind kind) .busy .empty) := by
  have busy : (s.heard p).portBusy p status = true := by rw [← hb]; simp [State.portBusy]
  unfold State.takeFrame
  dsimp only
  rw [if_neg (by rw [State.heard_port]; omega), if_pos busy]
  exact congrArg _ (State.settled_reply (State.heard_quiet p hq) _ _ _ _)

/-- A frame that finds room and is not answered BUSY is decided by its own rule. -/
theorem State.takeFrame_decided {s : State} {p : Port} {kind : Nat} {status : Bool}
    {decision : State → Host.Outcome State Fault Refusal} (hr : (s.port p).replies.length < 3)
    (hb : s.portBusy p status = false) : s.takeFrame p kind status decision = decision (s.heard p) := by
  have busy : (s.heard p).portBusy p status = false := by rw [← hb]; simp [State.portBusy]
  unfold State.takeFrame
  dsimp only
  rw [if_neg (by rw [State.heard_port]; omega), if_neg (by simp [busy])]

/-- The answer of a request that a check refuses. -/
theorem State.request_refused {s : State} {h : FrameHead} {kind : Nat} {g : Gate} {own : State → Taken}
    {code : ReplyCode} (hq : s.quiet = true) (hr : (s.port h.port).replies.length < 3)
    (hb : s.portBusy h.port (kind == 1) = false)
    (hg : (s.heard h.port).gate h.port h.lengthOk g = some code ∨
      (s.heard h.port).gate h.port h.lengthOk g = none ∧
        own (s.heard h.port) = .refuse (s.heard h.port) code) :
    s.request h kind g own = .next ((s.heard h.port).answered h.port (replyKind kind) code .empty) := by
  unfold State.request
  rw [State.takeFrame_decided hr hb]
  rcases hg with hg | ⟨hg, ho⟩ <;> simp only [hg]
  · exact Taken.outcome_reply (State.heard_quiet _ hq) _ _ _ _
  · rw [ho]; exact Taken.outcome_reply (State.heard_quiet _ hq) _ _ _ _

/-! The general checks, one by one (R163). -/

section
variable {s : State} {p : Port} {ok : Bool} {g : Gate}

theorem State.gate_length (h : g.length = true) (hok : ok = false) : s.gate p ok g = some .badBody := by
  simp [State.gate, h, hok]

/-- The checks after that of the length. -/
theorem State.gate_after_length (h : g.length = true → ok = true) : s.gate p ok g =
    match (if g.control then s.controlRefusal p else none) with
    | some c => some c
    | none => match g.mode s.sched.mode with
      | some c => some c
      | none => if g.store ∧ s.store.job.isSome then some .busy else none := by
  have pass : ¬(g.length = true ∧ (!ok) = true) := fun ⟨hl, hn⟩ => by simp [h hl] at hn
  exact if_neg pass

theorem State.controlRefusal_holder (h : s.owner.owner = p) : s.controlRefusal p = none := if_pos h

theorem State.controlRefusal_other (h : s.owner.owner ≠ p) :
    s.controlRefusal p = some (if p = .showLink then .serviceHolds else .notOwner) := by
  unfold State.controlRefusal
  rw [if_neg h]
  cases p <;> rfl

theorem State.gate_control (h : g.length = true → ok = true) (hc : g.control = true) (ho : s.owner.owner ≠ p) :
    s.gate p ok g = some (if p = .showLink then .serviceHolds else .notOwner) := by
  rw [State.gate_after_length h, if_pos hc, State.controlRefusal_other ho]

/-- The checks after that of the control. -/
theorem State.gate_after_control (h : g.length = true → ok = true) (hc : g.control = true → s.owner.owner = p) :
    s.gate p ok g = match g.mode s.sched.mode with
      | some c => some c
      | none => if g.store ∧ s.store.job.isSome then some .busy else none := by
  rw [State.gate_after_length h]
  cases hg : g.control with
  | false => rfl
  | true => rw [if_pos rfl, State.controlRefusal_holder (hc hg)]

theorem State.gate_mode {c : ReplyCode} (h : g.length = true → ok = true) (hc : g.control = true → s.owner.owner = p)
    (hm : g.mode s.sched.mode = some c) : s.gate p ok g = some c := by
  rw [State.gate_after_control h hc, hm]

theorem State.gate_store (h : g.length = true → ok = true) (hc : g.control = true → s.owner.owner = p)
    (hm : g.mode s.sched.mode = none) (hs : g.store = true) (hj : s.store.job ≠ none) : s.gate p ok g = some .busy := by
  rw [State.gate_after_control h hc, hm, hs]
  exact if_pos ⟨rfl, Option.isSome_iff_ne_none.2 hj⟩

end

/-! The checks of each kind (R163). -/

theorem gateOf_length (kind : Nat) : (gateOf kind).length = decide (kind ≠ 0x14) := by
  unfold gateOf
  split
  next => rfl
  next h =>
    have : kind ≠ 0x14 := by omega
    repeat' split
    all_goals simp [Gate.owned, Gate.free, this]

theorem gateOf_control {kind : Nat} (h : (0x10 ≤ kind ∧ kind ≤ 0x1E) ∨ kind = 0x20 ∨ kind = 0x21 ∨
    (0x24 ≤ kind ∧ kind ≤ 0x2E) ∨ kind = 0x39) : (gateOf kind).control = true := by
  unfold gateOf
  rcases h with h | rfl | rfl | ⟨low, high⟩ | rfl
  · rw [if_pos h]; rfl
  · rfl
  · rfl
  · interval_cases kind <;> rfl
  · rfl

theorem gateOf_define {kind : Nat} (h : 0x10 ≤ kind ∧ kind ≤ 0x1E) :
    (gateOf kind).mode = defineMode ∧ (gateOf kind).store = true := by
  unfold gateOf
  rw [if_pos h]
  exact ⟨rfl, rfl⟩

theorem gateOf_setting {kind : Nat} (h : kind = 0x2B ∨ kind = 0x2C) :
    (gateOf kind).mode = settingMode ∧ (gateOf kind).store = true := by
  rcases h with rfl | rfl <;> exact ⟨rfl, rfl⟩

theorem gateOf_show {kind : Nat} (h : kind = 0x20 ∨ kind = 0x21) : (gateOf kind).mode = showMode := by
  rcases h with rfl | rfl <;> rfl

theorem defineMode_none {m : Mode} (ho : m ≠ .opened) (hs : m ≠ .standstill) : defineMode m = none := by
  cases m
  case opened => exact absurd rfl ho
  case standstill => exact absurd rfl hs
  all_goals rfl

theorem settingMode_none {m : Mode} (hs : m ≠ .standstill) : settingMode m = none := by
  cases m
  case standstill => exact absurd rfl hs
  all_goals rfl

/-- Settles O23: each refusal is the first check of its kind that fails. -/
theorem statusAloneIsAnsweredWhileLoading : Obligations.StatusAloneIsAnsweredWhileLoading := by
  refine ⟨fun s h free staying room length quiet => ?status, fun p kind body => requestOf_frameCommand p body, ?_⟩
  case status =>
    have idle : s.portBusy h.port (1 == 1) = false := by simp [State.portBusy, free, staying]
    have open_ : (s.heard h.port).gate h.port h.lengthOk Gate.free = none := by simp [State.gate, Gate.free, length]
    show execQueryStatus h s = _
    unfold execQueryStatus State.query State.request
    rw [State.takeFrame_decided room idle]
    simp only [Gate.query, open_]
    rw [Taken.outcome_reply (State.heard_quiet _ quiet)]
    congr 4
    simp [State.statusReport]
    exact ⟨rfl, rfl⟩
  intro s c h kind hc quiet room refused
  obtain ⟨own, exec_eq, own_refuses⟩ := exec_request hc
  refine ⟨fun loading status => ?_, fun loaded free staying => ?_⟩
  · show exec c s = _
    rw [exec_eq]
    exact State.takeFrame_busy quiet room (by simp [State.portBusy, loading, status])
  have idle : s.portBusy h.port (kind == 1) = false := by simp [State.portBusy, free, staying, loaded]
  have refuse {code : ReplyCode} (hg : (s.heard h.port).gate h.port h.lengthOk (gateOf kind) = some code) :
      refused code := (exec_eq s).trans (State.request_refused quiet room idle (.inl hg))
  have refuseOwn {code : ReplyCode} (hg : gateOf kind = Gate.free)
      (ho : own (s.heard h.port) = .refuse (s.heard h.port) code) (hl : h.lengthOk = true) : refused code :=
    (exec_eq s).trans (State.request_refused quiet room idle (.inr ⟨by simp [hg, State.gate, Gate.free, hl], ho⟩))
  intro mode owned barred define controlled wrongMode
  refine ⟨fun bad kind' => refuse (State.gate_length (by simp [gateOf_length, kind']) bad), fun sized => ?_⟩
  have length : (gateOf kind).length = true → h.lengthOk = true := by
    rw [gateOf_length, decide_eq_true_eq]
    exact sized.resolve_right
  have modes : (s.heard h.port).sched.mode = mode := by simp; rfl
  have owner : (s.heard h.port).owner.owner = s.owner.owner := by simp
  have after (hc : (gateOf kind).control = true → s.owner.owner = h.port) :
      (gateOf kind).control = true → (s.heard h.port).owner.owner = h.port := fun hg => owner.trans (hc hg)
  refine ⟨fun hc other => ?_, fun hc own wrong => ?_, fun hk own still => ?_, fun hk own right job => ?_,
    fun hk still => ?_, fun hk => ?_, fun i hi => ?_, fun hk => ?_⟩
  · exact refuse (State.gate_control length (gateOf_control hc) (by rwa [owner]))
  · refine refuse (State.gate_mode length (after fun _ => own) ?_)
    rw [modes]
    rcases wrong with ⟨hd, hm | hm⟩ | ⟨hk, hm | hm⟩ | ⟨hk, hm⟩
    · rw [(gateOf_define hd).1, hm]; rfl
    · rw [(gateOf_define hd).1, hm]; rfl
    · rw [gateOf_show hk, hm]; rfl
    · rw [gateOf_show hk, hm]; rfl
    · rw [(gateOf_setting hk).1, hm]; rfl
  · refine refuse (State.gate_mode length (after fun _ => own) ?_)
    rw [modes, still, hk]
    rfl
  · refine refuse (State.gate_store length (after fun _ => own) ?_ ?_ (by simpa using job))
    · rw [modes]
      rcases hk with hd | hk | hk | hk
      · rw [(gateOf_define hd).1]
        exact defineMode_none (fun hm => right (.inl ⟨hd, .inl hm⟩)) fun hm => right (.inl ⟨hd, .inr hm⟩)
      · rw [(gateOf_setting (.inl hk)).1]
        exact settingMode_none fun hm => right (.inr (.inr ⟨.inl hk, hm⟩))
      · rw [(gateOf_setting (.inr hk)).1]
        exact settingMode_none fun hm => right (.inr (.inr ⟨.inr hk, hm⟩))
      · rw [hk]; rfl
    · rcases hk with hd | hk | hk | hk
      · exact (gateOf_define hd).2
      · exact (gateOf_setting (.inl hk)).2
      · exact (gateOf_setting (.inr hk)).2
      · rw [hk]; rfl
  · refine refuse (State.gate_mode length (after ?_) ?_)
    · rw [hk]; exact fun hg => nomatch hg
    · rw [modes, still, hk]; rfl
  · have refuses {code : ReplyCode} (e : (s.heard h.port).resumeRefusal h.port = some code) : refused code :=
      refuseOwn (by rw [hk]; rfl) (own_refuses _ _ (by rw [hk]; exact e)) (sized.resolve_right (by omega))
    unfold State.resumeRefusal at refuses
    rw [modes] at refuses
    refine ⟨fun other => refuses (if_pos other), fun still other => refuses ?_, fun still own active => refuses ?_⟩
    · rw [if_neg (not_not.2 still), State.controlRefusal_other (by rwa [owner])]
      rfl
    · rw [if_neg (not_not.2 still), State.controlRefusal_holder (owner.trans own), Option.none_or]
      exact if_pos (by simpa using active)
  · subst hi
    cases hc
    have refuses {code : ReplyCode} (e : (s.heard h.port).startRefusal h.port = some code) : refused code := by
      show execStartScene h (unitNo i) s = _
      unfold execStartScene
      refine State.request_refused quiet room idle (.inr ⟨?_, ?_⟩)
      · simp [State.gate, Gate.free, length rfl]
      · simp only [unit?_unitNo, e]
    unfold State.startRefusal at refuses
    rw [modes] at refuses
    refine ⟨fun still => refuses (if_pos still), fun running barred' => refuses ?_⟩
    rw [if_neg running]
    obtain ⟨port, ok⟩ := h
    cases port
    · have taken : s.owner.owner = .serviceLink ∨ s.owner.take.isSome = true := by
        rcases barred' with other | ⟨_, take⟩
        · left; cases hw : s.owner.owner
          · exact absurd hw other
          · rfl
        · exact .inr (Option.isSome_iff_ne_none.2 take)
      simp [taken, barred]
    · have other : s.owner.owner ≠ .serviceLink := barred'.resolve_right fun h => nomatch h.1
      simp [other, barred]
  · have refuses {code : ReplyCode} (e : (s.heard h.port).serviceRefusal h.port = some code) : refused code := by
      have hk' : kind = 0x30 ∨ kind = 0x31 ∨ kind = 0x32 := by omega
      refine refuseOwn ?_ (own_refuses _ _ ?_) (sized.resolve_right (by omega))
      · rcases hk' with rfl | rfl | rfl <;> rfl
      · rcases hk' with rfl | rfl | rfl <;> exact e
    unfold State.serviceRefusal at refuses
    rw [modes] at refuses
    refine ⟨fun other => refuses (if_pos other), fun service other => refuses ?_⟩
    rw [if_neg (not_not.2 service), State.controlRefusal_other (by rwa [owner])]

end Sys2Proof.Machine
end


section
/-! The transmitters and RESTART (R153, R154, R161, R164, R165, R170). -/

namespace Sys2Proof.Machine

/-- In a quiet part the transmitter of the show link that becomes IDLE goes on at once, replies first (R164). -/
theorem Link.sends_show {l : Link} (hv : l.servicePort.quiet = true) :
    ((l.modPort .showLink fun x => { x with transmitter := .idle }).startSending .showLink).startSending .serviceLink =
      match l.showPort.replies with
      | r :: rest => l.modPort .showLink fun x => { x with transmitter := .reply r, replies := rest }
      | [] => match l.outbox with
        | n :: rest => { l with
            showPort := { l.showPort with transmitter := .notice n l.missed }, outbox := rest, missed := 0 }
        | [] => l.modPort .showLink fun x => { x with transmitter := .idle } := by
  rw [Link.startSending_of_quiet _ .serviceLink]
  · rw [Link.startSending_show]
    obtain ⟨x, v, outbox, missed, restarting, baud⟩ := l
    obtain ⟨receiver, pending, replies, transmitter⟩ := x
    cases replies <;> cases outbox <;> rfl
  · show ((_ : Link).startSending .showLink).servicePort.quiet = true
    rw [Link.startSending_show_service]; exact hv
  · intro e; cases e

/-- In a quiet part the transmitter of the service link that becomes IDLE goes on at once with a reply (R164). -/
theorem Link.sends_service {l : Link} (hs : l.showPort.quiet = true)
    (ho : l.showPort.transmitter = .idle → l.outbox = []) :
    ((l.modPort .serviceLink fun x => { x with transmitter := .idle }).startSending .showLink).startSending
        .serviceLink =
      match l.servicePort.replies with
      | r :: rest => l.modPort .serviceLink fun x => { x with transmitter := .reply r, replies := rest }
      | [] => l.modPort .serviceLink fun x => { x with transmitter := .idle } := by
  rw [Link.startSending_of_quiet _ .showLink]
  · rw [Link.startSending_service]
    obtain ⟨x, v, outbox, missed, restarting, baud⟩ := l
    obtain ⟨receiver, pending, replies, transmitter⟩ := v
    cases replies <;> rfl
  · exact hs
  · intro _; exact ho

/-- The end of an event that leaves the Mixer and the Show Store of a quiet part: only the transmitters act. -/
theorem done_sends {s t : State} (hq : s.quiet = true) (hm : t.mixer = s.mixer) (hs : t.store = s.store) :
    done t = .next t.sends := congrArg Host.Outcome.next (State.settled_sends hq hm hs)

/-- TRANSMIT_DONE of a sending transmitter that sent no RESTART's reply. -/
theorem execTransmitDone_sends {s : State} {p : Port} (hq : s.quiet = true) (ht : (s.port p).transmitter ≠ .idle)
    (hr : restartSent s.link p = false) :
    execTransmitDone p s = .next (s.modPort p fun x => { x with transmitter := .idle }).sends := by
  unfold execTransmitDone
  rw [if_neg ht, if_neg (by simp [hr])]
  exact done_sends hq rfl rfl

theorem State.transmit_show {s : State} (hq : s.quiet = true) :
    (s.modPort .showLink fun x => { x with transmitter := .idle }).sends = { s with link :=
      match s.link.showPort.replies with
      | r :: rest => s.link.modPort .showLink fun x => { x with transmitter := .reply r, replies := rest }
      | [] => match s.link.outbox with
        | n :: rest => { s.link with
            showPort := { s.link.showPort with transmitter := .notice n s.link.missed }, outbox := rest, missed := 0 }
        | [] => s.link.modPort .showLink fun x => { x with transmitter := .idle } } := by
  rw [← Link.sends_show (State.quiet_port hq .serviceLink)]
  rfl

theorem State.transmit_service {s : State} (hq : s.quiet = true) :
    (s.modPort .serviceLink fun x => { x with transmitter := .idle }).sends = { s with link :=
      match s.link.servicePort.replies with
      | r :: rest => s.link.modPort .serviceLink fun x => { x with transmitter := .reply r, replies := rest }
      | [] => s.link.modPort .serviceLink fun x => { x with transmitter := .idle } } := by
  rw [← Link.sends_service (State.quiet_port hq .showLink) (State.quiet_outbox hq)]
  rfl

/-! RESTART. -/

theorem replyKind_toNat (kind : Byte) : replyKind kind.toNat = kind + 0x80#8 := by
  simp [replyKind, BitVec.ofNat_add]

theorem State.portBusy_restarting {s : State} {q : Port} (h : s.link.restarting = some q) (p : Port) (status : Bool) :
    s.portBusy p status = true := by simp [State.portBusy, h]

/-- Once a RESTART is accepted, every request is answered BUSY (R161, R170). -/
theorem exec_restarting {s : State} {c : Instr} {h : FrameHead} {kind : Nat} {q : Port}
    (hc : requestOf c = some (h, kind)) (hq : s.quiet = true) (hr : s.link.restarting = some q)
    (room : (s.port h.port).replies.length < 3) :
    exec c s = .next ((s.heard h.port).answered h.port (replyKind kind) .busy .empty) := by
  obtain ⟨own, exec_eq, _⟩ := exec_request hc
  rw [exec_eq]
  exact State.takeFrame_busy hq room (State.portBusy_restarting hr _ _)

theorem execRestart_taken {s : State} {h : FrameHead} (a : s.AdmitsOwned h) (idle : s.store.job = none) :
    execRestart h s = .next (State.answered
      { s.heard h.port with link := { s.link with restarting := some h.port } } h.port 0xAE#8 .done .restartTaken) := by
  unfold execRestart
  refine (State.request_of_gate a.toAdmits _ _ _ (State.gate_owned a _ rfl true fun _ => idle)).trans ?_
  have quiet : ({ s.heard h.port with link := { (s.heard h.port).link with restarting := some h.port } } : State).quiet =
      true := State.heard_quiet h.port a.quiet
  rw [Taken.outcome_reply quiet, State.heard_link]
  rfl

/-- Settles O22: what each port sends next, the taken RESTART, and the restart at its reply's end. -/
theorem transmitterPrefersRepliesAndRestarts : Obligations.TransmitterPrefersRepliesAndRestarts := by
  refine ⟨fun s p hq ht hr => ?_, fun s h a idle => execRestart_taken a idle,
    fun s p q h hq hr hp room => ⟨?_, fun kind body hk => ?_⟩, fun s p sent => ?_⟩
  · show (∀ r rest, _ → execTransmitDone p s = _) ∧ (_ → _ → execTransmitDone p s = _) ∧
      ∀ n rest, _ → _ → _ → execTransmitDone p s = _
    rw [execTransmitDone_sends hq ht hr]
    cases p
    · rw [State.transmit_show hq]
      refine ⟨fun r rest e => ?_, fun e ho => ?_, fun n rest e _ ho => ?_⟩
      · rw [show s.link.showPort.replies = r :: rest from e]; rfl
      · rw [show s.link.showPort.replies = [] from e, ho.resolve_left nofun]; rfl
      · rw [show s.link.showPort.replies = [] from e, ho]
    · rw [State.transmit_service hq]
      refine ⟨fun r rest e => ?_, fun e _ => ?_, fun n rest _ e => nomatch e⟩
      · rw [show s.link.servicePort.replies = r :: rest from e]; rfl
      · rw [show s.link.servicePort.replies = [] from e]; rfl
  · subst hp
    exact exec_restarting rfl hq hr room
  · obtain ⟨ok, hc⟩ := requestOf_frameCommand p body hk
    rw [← replyKind_toNat]
    exact exec_restarting hc hq hr room
  · have going : (s.port p).transmitter ≠ .idle := by
      have := (Bool.and_eq_true _ _ ▸ sent).2
      intro idle
      rw [State.port] at idle
      simp [idle] at this
    have restarts : exec (.transmitDone p) s = .next s.restart := by
      show execTransmitDone p s = _
      unfold execTransmitDone
      rw [if_neg going, if_pos sent]
    exact ⟨_, restarts, rfl, rfl, rfl, rfl, rfl, rfl, rfl, rfl, rfl, rfl, rfl⟩

end Sys2Proof.Machine
end


section
/-! Frames (sections 10.1 and 12.1): the bytes of a frame, and what the receiver makes of them (R160, R161). -/

namespace Sys2Proof.Machine

/-! The lengths of the fields. -/

@[simp] theorem leBytes_length (n v : Nat) : (leBytes n v).length = n := by
  induction n generalizing v with
  | zero => rfl
  | succ n ih => simp [leBytes, ih]

@[simp] theorem b1_length (v : Nat) : (b1 v).length = 1 := leBytes_length 1 v

@[simp] theorem b2_length (v : Nat) : (b2 v).length = 2 := leBytes_length 2 v

/-- A number that fits the bytes it is sent in is read back. -/
theorem leNat_leBytes (n v : Nat) (h : v < 256 ^ n) : leNat (leBytes n v) = v := by
  induction n generalizing v with
  | zero => simp [leBytes, leNat]; omega
  | succ n ih =>
    have rest : v / 256 < 256 ^ n := Nat.div_lt_of_lt_mul (by rwa [Nat.pow_succ, Nat.mul_comm] at h)
    rw [leBytes, leNat, ih _ rest, BitVec.toNat_ofNat]
    exact Nat.mod_add_div v 256

theorem cueParameters_length (act : CueAct) : (cueParameters act).length = 6 := by
  cases act <;> simp [cueParameters]

theorem cueBytes_length (q : Cue) : (cueBytes q).length = 10 := by
  simp [cueBytes, cueParameters_length]

theorem captureBytes_length (c : Capture) : (captureBytes c).length = 9 := by
  simp [captureBytes]

theorem pressBytes_length (r : PressRecord) : (pressBytes r).length = 11 := by
  simp [pressBytes, captureBytes_length]

/-- Every reply fits one frame (R178). -/
theorem replyFields_length_le {b : ReplyBody} (cues : ∀ length free cues, b = .cues length free cues → cues.length ≤ 24)
    (presses : ∀ records, b = .presses records → records.length ≤ 16) : (replyFields b).length ≤ 248 := by
  unfold replyFields
  split
  case h_1 => exact Nat.zero_le _
  case h_2 => simp
  case h_3 records =>
    have few := presses records rfl
    simp [List.length_flatMap, pressBytes_length]
    omega
  case h_4 length free list =>
    have few := cues length free list rfl
    have head := Config.cuesHeadLength.isLt
    simp [cuesHead, List.length_flatMap, cueBytes_length]
    omega
  case h_5 => exact Nat.zero_le _
  case h_6 =>
    rw [List.length_map, List.length_range]
    exact Nat.le_of_lt_succ (Fin.isLt _)

/-! The bytes of a frame. -/

/-- The bytes that a frame's check covers: its length, its kind and its body. -/
noncomputable def covered (kind : Byte) (body : List Byte) : List Byte := BitVec.ofNat 8 (1 + body.length) :: kind :: body

/-- The bytes of a frame after the sync byte. -/
noncomputable def frameTail (kind : Byte) (body : List Byte) : List Byte :=
  covered kind body ++ leBytes 2 (crc16 (covered kind body)).toNat

theorem frameBytes_eq (kind : Byte) (body : List Byte) : frameBytes kind body = 0xA5#8 :: frameTail kind body := rfl

@[simp] theorem frameTail_length (kind : Byte) (body : List Byte) : (frameTail kind body).length = body.length + 4 := by
  simp [frameTail, covered]

theorem frameTail_take (kind : Byte) (body : List Byte) :
    (frameTail kind body).take ((frameTail kind body).length - 2) = covered kind body := by
  rw [frameTail_length, frameTail]
  exact List.take_left' (by simp [covered])

theorem frameTail_drop (kind : Byte) (body : List Byte) :
    (frameTail kind body).drop ((frameTail kind body).length - 2) = leBytes 2 (crc16 (covered kind body)).toNat := by
  rw [frameTail_length, frameTail]
  exact List.drop_left' (by simp [covered])

theorem crc16_leNat (bytes : List Byte) : leNat (leBytes 2 (crc16 bytes).toNat) = (crc16 bytes).toNat :=
  leNat_leBytes 2 _ (crc16 bytes).isLt

/-! What the receiver collects. -/

/-- Bytes after a sync byte that are not yet a whole frame. -/
def Unfinished (bytes : List Byte) : Prop :=
  (bytes.headD 0#8).toNat ≠ 0 ∧ (bytes.headD 0#8).toNat ≤ 250 ∧ bytes.length < (bytes.headD 0#8).toNat + 3

theorem Receiver.take_unfinished {bytes : List Byte} {byte : Byte} (h : Unfinished (bytes ++ [byte])) (expiry now : Stamp) :
    Receiver.take (.collecting bytes expiry) now byte true = .receiver (.collecting (bytes ++ [byte]) expiry) := by
  obtain ⟨nonzero, le, short⟩ := h
  unfold Receiver.take
  dsimp only
  rw [if_neg (by simp), if_neg (not_or_intro nonzero (Nat.not_lt.2 le)), if_neg short.ne]

theorem Receiver.take_complete {bytes : List Byte} {byte : Byte} (nonzero : ((bytes ++ [byte]).headD 0#8).toNat ≠ 0)
    (le : ((bytes ++ [byte]).headD 0#8).toNat ≤ 250)
    (whole : (bytes ++ [byte]).length = ((bytes ++ [byte]).headD 0#8).toNat + 3) (expiry now : Stamp) :
    Receiver.take (.collecting bytes expiry) now byte true = .complete (bytes ++ [byte]) := by
  unfold Receiver.take
  dsimp only
  rw [if_neg (by simp), if_neg (not_or_intro nonzero (Nat.not_lt.2 le)), if_pos whole]

theorem Unfinished.prefix {bytes rest : List Byte} {byte : Byte} (h : Unfinished (bytes ++ byte :: rest)) :
    Unfinished (bytes ++ [byte]) := by
  have head : (bytes ++ byte :: rest).headD 0#8 = (bytes ++ [byte]).headD 0#8 := by cases bytes <;> rfl
  obtain ⟨nonzero, le, short⟩ := h
  rw [head] at nonzero le short
  refine ⟨nonzero, le, ?_⟩
  refine Nat.lt_of_le_of_lt ?_ short
  simp

/-- Bytes that make no whole frame are collected one by one. -/
theorem Receiver.collects (now expiry : Stamp) (rest : List Byte) : ∀ bytes, Unfinished (bytes ++ rest) →
    rest.foldl (fun r b => match Receiver.take r now b true with
      | .receiver r' => r'
      | .complete _ => .hunting) (.collecting bytes expiry) = .collecting (bytes ++ rest) expiry := by
  induction rest with
  | nil => intro bytes _; rw [List.append_nil]; rfl
  | cons byte rest ih =>
    intro bytes h
    rw [List.foldl_cons, Receiver.take_unfinished h.prefix]
    dsimp only
    rw [ih (bytes ++ [byte]) (by simpa using h)]
    simp

section
variable {kind : Byte} {body bytes : List Byte} {last : Byte}

theorem frameTail_head (fits : body.length ≤ 249) :
    ((frameTail kind body).headD 0#8).toNat = body.length + 1 := by
  simp only [frameTail, covered, List.cons_append, List.headD_cons, BitVec.toNat_ofNat]
  rw [Nat.mod_eq_of_lt (Nat.lt_of_le_of_lt (Nat.add_le_add_left fits 1) (by decide)), Nat.add_comm]

/-- A frame of the part, short of its last byte, is no whole frame. -/
theorem unfinished_of_frameTail (fits : body.length ≤ 249) (h : frameTail kind body = bytes ++ [last]) :
    Unfinished bytes := by
  have head := frameTail_head (kind := kind) fits
  have length := frameTail_length kind body
  rw [h] at head length
  rw [List.length_append, List.length_singleton] at length
  cases bytes with
  | nil => simp at length
  | cons n rest =>
    have head : n.toNat = body.length + 1 := head
    unfold Unfinished
    rw [List.headD_cons, head]
    exact ⟨Nat.succ_ne_zero _, Nat.succ_le_succ fits, Nat.lt_of_succ_le length.le⟩

theorem Receiver.take_frameTail (fits : body.length ≤ 249) (h : frameTail kind body = bytes ++ [last])
    (expiry now : Stamp) : Receiver.take (.collecting bytes expiry) now last true = .complete (frameTail kind body) := by
  have head := frameTail_head (kind := kind) fits
  have length := frameTail_length kind body
  rw [h] at head length ⊢
  exact Receiver.take_complete (by rw [head]; exact Nat.succ_ne_zero _) (by rw [head]; exact Nat.succ_le_succ fits)
    (by rw [head, length]) expiry now

end

/-- Settles O21: the bytes short of the last are collected one by one, and the last completes the frame. -/
theorem frameBytesAreCollectedWhole : Obligations.FrameBytesAreCollectedWhole := by
  refine ⟨fun r cues presses => ⟨_, rfl, ?_⟩, cueBytes_length, fun kind body now expiry fits => ?_⟩
  · have fields := replyFields_length_le cues presses
    rw [List.length_append, b1_length]
    omega
  · have nonempty : frameTail kind body ≠ [] := by simp [frameTail, covered]
    obtain ⟨bytes, last, h⟩ : ∃ bytes last, frameTail kind body = bytes ++ [last] :=
      ⟨_, _, (List.dropLast_append_getLast nonempty).symm⟩
    refine ⟨bytes, last, by rw [frameBytes_eq, h], ?_, ?_, ?_⟩
    · exact Receiver.collects now expiry bytes [] (unfinished_of_frameTail fits h)
    · rw [← h]; exact Receiver.take_frameTail fits h expiry now
    · rw [← h]
      dsimp only
      rw [frameTail_take, frameTail_drop, crc16_leNat]
      exact ⟨rfl, rfl, rfl⟩

/-! The receiver (R160, R161). -/

/-- A receiver has no part in what is sent. -/
theorem State.receive_quiet (s : State) (p : Port) (r : Receiver) : (s.receive p r).quiet = s.quiet := by
  cases p <;> rfl

/-- A receiver that takes a state in a quiet part: nothing else happens. -/
theorem done_receive {s : State} (hq : s.quiet = true) (p : Port) (r : Receiver) :
    done (s.receive p r) = .next (s.receive p r) :=
  congrArg Host.Outcome.next (State.settled_of_quiet ((s.receive_quiet p r).trans hq))

/-- A reply placed in a quiet part ends its event. -/
theorem done_reply {s : State} (hq : s.quiet = true) (p : Port) (k : Byte) (c : ReplyCode) (b : ReplyBody) :
    done (s.reply p k c b) = .next (s.answered p k c b) := congrArg Host.Outcome.next (State.settled_reply hq p k c b)

/-- A byte that leaves the receiver collecting or hunting. -/
theorem execByteArrival_receives {s : State} {p : Port} {byte : Byte} {ok : Bool} {r : Receiver} (hq : s.quiet = true)
    (h : (s.port p).receiver.take s.now byte ok = .receiver r) :
    exec (.byteArrival p byte ok) s = .next (s.receive p r) := by
  show execByteArrival p byte ok s = _
  unfold execByteArrival
  rw [h]
  exact done_receive hq p r

/-- A byte that completes a frame. -/
theorem execByteArrival_completes {s : State} {p : Port} {byte : Byte} {ok : Bool} {bytes : List Byte}
    (h : (s.port p).receiver.take s.now byte ok = .complete bytes) :
    exec (.byteArrival p byte ok) s = (s.receive p .hunting).completeFrame p bytes := by
  show execByteArrival p byte ok s = _
  unfold execByteArrival
  rw [h]

/-- A whole frame with a good check does what the command does that it carries. -/
theorem State.completeFrame_good (s : State) (p : Port) (kind : Byte) (body : List Byte) :
    s.completeFrame p (frameTail kind body) = exec (frameCommand p kind body) s := by
  unfold State.completeFrame
  rw [frameTail_take, frameTail_drop]
  exact (if_pos (crc16_leNat _).symm).trans (s.frame_eq_exec p body kind)

theorem State.completeFrame_damaged (s : State) (p : Port) {covered check : List Byte} (hc : check.length = 2)
    (h : leNat check ≠ (crc16 covered).toNat) : s.completeFrame p (covered ++ check) = exec (.badFrame p) s := by
  have length : (covered ++ check).length - 2 = covered.length := by rw [List.length_append, hc]; rfl
  unfold State.completeFrame
  rw [length, List.take_left, List.drop_left]
  exact if_neg (Ne.symm h)

theorem execBadFrame_answered {s : State} {p : Port} (hq : s.quiet = true) (room : (s.port p).replies.length < 3) :
    exec (.badFrame p) s = .next (s.answered p 0xFF#8 .badFrame .empty) :=
  (if_neg (by omega)).trans (done_reply hq _ _ _ _)

theorem execUnknownKind_answered {s : State} {p : Port} {kind : Byte} (a : s.Admits { port := p, lengthOk := true })
    (h : isRequestKind p kind.toNat = false) :
    exec (.unknownKind p kind) s = .next ((s.heard p).answered p 0xFF#8 .unknownKind (.kindByte kind)) := by
  show execUnknownKind p kind s = _
  unfold execUnknownKind
  rw [if_neg (by simp [h])]
  exact (State.takeFrame_of_admits a _ _ _).trans (done_reply (State.heard_quiet p a.quiet) _ _ _ _)

theorem toNat_ne_zero {b : Byte} (h : b ≠ 0#8) : b.toNat ≠ 0 := fun e => h (BitVec.eq_of_toNat_eq e)

/-- Settles O20: each clause is what the receiver makes of the byte, and what its whole frame does. -/
theorem receiverTakesWholeFramesOnly : Obligations.ReceiverTakesWholeFramesOnly := by
  refine ⟨fun s p byte ok hq => ⟨fun hunting sync stop => ?_, fun hunting other => ?_,
      fun bytes expiry collecting => ⟨fun bad => ?_, fun stop first later => ?_, fun due => ?_⟩⟩,
    ⟨fun s p => execBadFrame_answered, fun s p kind => execUnknownKind_answered⟩,
    fun s p kind body bytes last expiry collecting => ⟨fun fits frame => ?_,
      fun n rest check whole sized two nonzero le wrong => ?_⟩⟩
  · refine execByteArrival_receives hq ?_
    rw [hunting, Receiver.take, if_pos ⟨sync, stop⟩]
  · refine execByteArrival_receives hq ?_
    rw [hunting, Receiver.take, if_neg fun h => other.elim (· h.1) fun hn => by simp [hn] at h]
  · refine execByteArrival_receives hq ?_
    rw [collecting]
    rcases bad with rfl | ⟨rfl, zero | long⟩
    · rfl
    · cases ok
      · rfl
      · simp [Receiver.take, zero]
    · cases ok
      · rfl
      · simp [Receiver.take, long]
  · subst stop
    refine execByteArrival_receives hq ?_
    rw [collecting]
    refine Receiver.take_unfinished ?_ _ _
    cases bytes with
    | nil =>
      obtain ⟨nonzero, le⟩ := first rfl
      exact ⟨toNat_ne_zero nonzero, le, by simp⟩
    | cons n rest =>
      obtain ⟨nonzero, le, short⟩ := later n rest rfl
      refine ⟨toNat_ne_zero nonzero, le, ?_⟩
      simp only [List.cons_append, List.length_cons, List.length_append, List.headD_cons, List.length_nil]
      omega
  · show execFrameTimerExpiry p s = _
    unfold execFrameTimerExpiry
    rw [collecting]
    exact (if_pos due).trans (done_receive hq p .hunting)
  · have tail : frameTail kind body = bytes ++ [last] := by
      rw [frameBytes_eq] at frame
      exact (List.cons.inj frame).2
    rw [execByteArrival_completes (bytes := frameTail kind body), State.completeFrame_good]
    rw [collecting]
    exact Receiver.take_frameTail fits tail _ _
  · rw [execByteArrival_completes (bytes := n :: rest ++ check), State.completeFrame_damaged _ _ two wrong]
    have head : (bytes ++ [last]).headD 0#8 = n := by rw [whole]; rfl
    have length : (bytes ++ [last]).length = n.toNat + 3 := by
      rw [whole]
      simp only [List.cons_append, List.length_cons, List.length_append]
      omega
    rw [collecting, ← whole]
    exact Receiver.take_complete (by rw [head]; exact toNat_ne_zero nonzero) (by rw [head]; exact le)
      (by rw [head]; exact length) _ _

end Sys2Proof.Machine
end


section
/-! Start-up (section 11.3): what every block is as loading begins, and what the end of loading makes. -/

namespace Sys2Proof.Machine

/-! The blocks as start-up begins (R174): each row of a block's tables is that of the empty show. -/

theorem startUp_scene (i : SceneId) : (Scheduler.start emptyShow.scenes).scenes.get i = Scene.start none :=
  (Table.get_map _ _ i).trans (congrArg Scene.start (Table.get_fill none i))

theorem startUp_channel (c : Channel) :
    (Lighting.start emptyShow.channels emptyShow.lampGroups).channels.get c = ChannelState.start defaultChannel :=
  (Table.get_map _ _ c).trans (congrArg ChannelState.start (Table.get_fill _ c))

theorem startUp_lampGroup (g : LampGroup) :
    (Lighting.start emptyShow.channels emptyShow.lampGroups).groups.get g = LampGroupState.start defaultLampGroup :=
  (Table.get_map _ _ g).trans (congrArg LampGroupState.start (Table.get_fill _ g))

theorem startUp_axis (x : MotionState) (a : Axis) : x.restart.axes.get a =
    AxisRec.start defaultAxis (x.axes.get a).home.line (x.axes.get a).low.line (x.axes.get a).high.line :=
  Table.get_map _ _ a

theorem startUp_soundZone (z : SoundZone) :
    (Mixer.start emptyShow.clips emptyShow.soundZones).zones.get z = SoundZoneState.start defaultSoundZone :=
  (Table.get_map _ _ z).trans (congrArg SoundZoneState.start (Table.get_fill _ z))

theorem startUp_sensor (x : Supervisor) (n : Sensor) : x.restart.sensors.get n = SensorState.start defaultSensor :=
  (Table.get_map _ _ n).trans (congrArg SensorState.start (Table.get_fill _ n))

theorem startUp_lampLine (x : Supervisor) (g : LampGroup) : x.restart.lampLines.get g =
    { filter := Filter.start (x.lampLines.get g).filter.line, latch := false } := Table.get_map _ _ g

theorem startUp_axisLine (x : Supervisor) (g : AxisGroup) : x.restart.axisLines.get g =
    { filter := Filter.start (x.axisLines.get g).filter.line, latch := false } := Table.get_map _ _ g

theorem startUp_input (x : Inputs) (i : InputId) :
    x.restart.lines.get i = InputLine.start defaultInput (x.lines.get i).high := Table.get_map _ _ i

theorem startUp_floorZone (x : Inputs) (z : FloorZone) :
    x.restart.zones.get z = { hold := 0, state := .clear, expiry := none } := Table.get_fill _ z

theorem dark_output (c : Channel) : (Snapshot.dark.channels.get c).output = 0 :=
  congrArg ChannelFrame.output (Table.get_fill _ c)

theorem Store.loseWrite_of_not_writing {t : Store} (h : t.held ≠ some .clipWrite) : t.loseWrite = t := by
  unfold Store.loseWrite
  split
  next hw _ => exact absurd hw h
  next => rfl

/-- Settles O18: every block of the part is that of start-up. -/
theorem powerOnStartsLoading : Obligations.PowerOnStartsLoading := by
  intro s strap found
  refine ⟨_, rfl, rfl, rfl, rfl, rfl, rfl, rfl, rfl, rfl, rfl, fun p => ?port, rfl, rfl, rfl, rfl, rfl, rfl,
    Table.get_fill _, Table.get_fill _, Table.get_fill _, fun i => ?scene, Table.get_fill _, dark_output, rfl,
    fun c => ?channel, fun g => ?group, fun a => ?axis, Table.get_fill _, Table.get_fill _, rfl, Table.get_fill _, rfl,
    rfl, rfl, rfl, Table.get_fill _, fun z => ?zone, fun n => ?sensor, fun g => ?lampLine, fun g => ?axisLine, rfl, rfl,
    rfl, fun i => ?input, fun z => ?floor, rfl, rfl, rfl, rfl, rfl, rfl, fun f hf => ?found, fun hf idle => ?kept⟩
  case port => cases p <;> exact ⟨rfl, rfl, rfl, rfl⟩
  case scene => dsimp only [State.startUp]; rw [startUp_scene i]; exact ⟨rfl, rfl, rfl⟩
  case channel => dsimp only [State.startUp]; rw [startUp_channel c]; exact ⟨rfl, rfl, rfl, rfl, rfl⟩
  case group => dsimp only [State.startUp]; rw [startUp_lampGroup g]; exact ⟨rfl, rfl, rfl, rfl, rfl⟩
  case axis =>
    dsimp only [State.startUp]; rw [startUp_axis s.motion a]
    exact ⟨rfl, rfl, rfl, rfl, rfl, rfl, rfl, rfl, rfl, rfl, rfl, rfl⟩
  case zone => dsimp only [State.startUp]; rw [startUp_soundZone z]; exact ⟨rfl, rfl, rfl, rfl, rfl, rfl⟩
  case sensor => dsimp only [State.startUp]; rw [startUp_sensor s.supervisor n]; exact ⟨rfl, rfl, rfl, rfl, rfl⟩
  case lampLine => dsimp only [State.startUp]; rw [startUp_lampLine s.supervisor g]; exact ⟨rfl, rfl⟩
  case axisLine => dsimp only [State.startUp]; rw [startUp_axisLine s.supervisor g]; exact ⟨rfl, rfl⟩
  case input => dsimp only [State.startUp]; rw [startUp_input s.inputs i]; exact ⟨rfl, rfl, rfl, rfl, rfl⟩
  case floor => dsimp only [State.startUp]; rw [startUp_floorZone s.inputs z]; exact ⟨rfl, rfl⟩
  case found => subst hf; exact ⟨rfl, rfl⟩
  case kept =>
    subst hf
    have store : s.store.loseWrite = s.store := Store.loseWrite_of_not_writing idle
    exact ⟨(congrArg Store.clips store :), (congrArg Store.image store :)⟩

/-! The show a Mixer plays: its clip directory and its zones' definitions. -/

/-- The clip directory and the definitions of the zones are those of another Mixer. -/
def Mixer.SameShow (m n : Mixer) : Prop := m.clips = n.clips ∧ ∀ z, (m.zones.get z).defn = (n.zones.get z).defn

theorem Mixer.SameShow.refl (m : Mixer) : m.SameShow m := ⟨rfl, fun _ => rfl⟩

theorem Mixer.SameShow.trans {k m n : Mixer} (h : k.SameShow m) (h' : m.SameShow n) : k.SameShow n :=
  ⟨h.1.trans h'.1, fun z => (h.2 z).trans (h'.2 z)⟩

/-- A change of one zone that leaves its definition. -/
theorem Mixer.sameShow_modify (m : Mixer) (z : SoundZone) {f : SoundZoneState → SoundZoneState}
    (h : ∀ x, (f x).defn = x.defn) : ({ m with zones := m.zones.modify z f } : Mixer).SameShow m := by
  refine ⟨rfl, fun x => ?_⟩
  show ((m.zones.modify z f).get x).defn = _
  rw [Table.get_modify]
  split
  · exact h _
  · rfl

theorem Mixer.startBed_sameShow (m : Mixer) (z : SoundZone) : (m.startBed z).SameShow m := by
  unfold Mixer.startBed
  dsimp only
  split
  · split
    · exact .refl m
    · exact m.sameShow_modify z fun _ => rfl
  · exact .refl m

theorem Mixer.startBeds_sameShow (zones : List SoundZone) : ∀ m : Mixer, (zones.foldl Mixer.startBed m).SameShow m := by
  induction zones with
  | nil => exact Mixer.SameShow.refl
  | cons z zones ih => exact fun m => (ih _).trans (m.startBed_sameShow z)

theorem Mixer.issueRead_sameShow (m : Mixer) (now : Stamp) : (m.issueRead now).SameShow m := by
  unfold Mixer.issueRead
  split
  · exact .refl m
  · split
    · refine m.sameShow_modify _ fun x => ?_
      split <;> rfl
    · exact .refl m

theorem State.settled_sameShow (s : State) : s.settled.mixer.SameShow s.mixer := by
  unfold State.settled
  rcases s.arbitrate_cases with h | h | h <;> rw [h]
  · exact .refl _
  · exact .refl _
  · exact Mixer.issueRead_sameShow _ _

/-! The end of loading (R174 to R176). -/

theorem State.settled_link (s : State) :
    s.settled.link = (s.link.startSending .showLink).startSending .serviceLink := by
  unfold State.settled
  dsimp only
  rw [State.arbitrate_port]

/-- Taking the flash loads no show. -/
theorem Store.begin_load (t : Store) (now : Stamp) : (t.begin now).load = t.load := by
  unfold Store.begin
  split
  · rfl
  · next u _ _ => cases u <;> rfl

theorem State.settled_load (s : State) : s.settled.store.load = s.store.load := by
  unfold State.settled
  rcases s.arbitrate_cases with h | h | h <;> rw [h]
  exact Store.begin_load _ _

/-- Any other change made with a notice leaves the link as the notice alone does. -/
theorem State.settled_link_of_note {s t : State} (hq : s.quiet = true) {b : NoticeBody}
    (h : t.link = (s.note b).link) : t.settled.link = s.link.told ⟨s.now, b⟩ := by
  rw [State.settled_link, h, ← State.settled_link, State.settled_note hq]
  rfl

/-- The working definitions are read off the blocks, and the end of an event leaves them. -/
theorem State.settled_definitions (s : State) : s.settled.definitions = s.definitions := by
  obtain ⟨clips, zones⟩ := s.settled_sameShow
  have soundZones : s.settled.mixer.zones.map (·.defn) = s.mixer.zones.map (·.defn) :=
    Table.ext_get _ _ fun z => by rw [Table.get_map, Table.get_map]; exact zones z
  unfold State.definitions
  rw [soundZones, clips, State.settled_inputs, State.settled_sched, State.settled_cues, State.settled_light,
    State.settled_motion, State.settled_supervisor, State.settled_clock]

/-- The zones of a Mixer that starts are those of its definitions. -/
theorem Mixer.startBeds_definitions (d : Definitions) :
    ((units 4).foldl Mixer.startBed (Mixer.start d.clips d.soundZones)).zones.map (·.defn) = d.soundZones :=
  Table.ext_get _ _ fun z => by
    rw [Table.get_map, (Mixer.startBeds_sameShow (units 4) _).2 z]
    exact congrArg SoundZoneState.defn (Table.get_map _ _ z)

theorem Supervisor.load_definitions (v : Supervisor) (d : Definitions) (now : Stamp) :
    (v.load d now).sensors.map (·.defn) = d.sensors :=
  Table.ext_get _ _ fun n => by
    rw [Table.get_map]
    exact congrArg SensorState.defn (Table.get_map _ _ n)

/-- The working definitions that the end of loading makes (R175). -/
theorem State.endLoading_definitions (s : State) (reason : Option LoadReason) : (s.endLoading reason).definitions =
    { loadedShow s.store.image reason with trim :=
        if s.store.kind = .powerOn then (loadedShow s.store.image reason).trim else s.clock.trimPending } := by
  unfold State.definitions State.endLoading
  dsimp only
  rw [Mixer.startBeds_definitions, Supervisor.load_definitions, (Mixer.startBeds_sameShow (units 4) _).1]
  congr 1 <;> apply Table.ext_get <;> intro i <;>
    simp only [Table.get_map, Table.get_ofFn, Lighting.frame, Lighting.start, Scheduler.start, MotionState.start] <;> rfl

/-- The notice of the end of loading. -/
noncomputable def State.loadNotice (s : State) (reason : Option LoadReason) : NoticeBody :=
  .startup reason.isNone s.store.kind reason
    (if reason = some .readFailed then 0 else s.store.image.lengthField.getD 0)

/-- What the end of loading leaves (R174, R175). -/
theorem State.endLoading_settled {s : State} (hq : s.quiet = true) (reason : Option LoadReason) :
    (s.endLoading reason).settled.definitions = { loadedShow s.store.image reason with trim :=
        if s.store.kind = .powerOn then (loadedShow s.store.image reason).trim else s.clock.trimPending } ∧
      (s.endLoading reason).settled.store.load = (if reason.isNone then .loaded else .empty) ∧
      (s.endLoading reason).settled.link = s.link.told ⟨s.now, s.loadNotice reason⟩ := by
  refine ⟨?_, State.settled_load _, State.settled_link_of_note hq rfl⟩
  rw [State.settled_definitions, State.endLoading_definitions]

/-! The first check that fails (R174). -/

section
variable {image : FlashImage}

theorem imageReason_length (h : ¬(image.lengthField = some image.bytes.length ∧ image.bytes ≠ [])) :
    imageReason image false = some .length :=
  (if_neg Bool.false_ne_true).trans (if_pos (by rwa [not_and_or, not_not] at h))

theorem imageReason_sized (h : image.lengthField = some image.bytes.length ∧ image.bytes ≠ []) :
    imageReason image false = if image.crcField ≠ some (crc16 image.bytes) then some .crc
      else match image.definitions with
        | none => some .range
        | some d => if !rangesOk d then some .range else if !crossReferencesOk d then some .crossReference else none :=
  (if_neg Bool.false_ne_true).trans (if_neg (by rw [not_or, not_not]; exact h))

theorem imageReason_sound (h : (image.lengthField = some image.bytes.length ∧ image.bytes ≠ []) ∧
    image.crcField = some (crc16 image.bytes)) : imageReason image false = match image.definitions with
      | none => some .range
      | some d => if !rangesOk d then some .range else if !crossReferencesOk d then some .crossReference else none :=
  (imageReason_sized h.1).trans (if_neg (not_not.2 h.2))

end

theorem loadedShow_refused (image : FlashImage) {reason : Option LoadReason} (h : reason ≠ none) :
    loadedShow image reason = emptyShow := by
  cases reason with
  | none => exact absurd rfl h
  | some r => rfl

theorem loadedClip_of_not_writing {x : ClipEntry} (h : ∀ start length written, x ≠ .writing start length written) :
    loadedClip x = x := by
  cases x with
  | writing start length written => exact absurd rfl (h start length written)
  | _ => rfl

/-- Settles O19: both ends of loading are the model's `endLoading`, with the first check that fails as the reason. -/
theorem loadEndMakesWorkingDefinitions : Obligations.LoadEndMakesWorkingDefinitions := by
  refine ⟨fun s readFailed loading early quiet => ⟨_, if_pos ⟨loading, early⟩, ?ended⟩,
    fun s loading late quiet => ⟨_, if_pos ⟨loading, late⟩, ?timeout⟩, fun image => ⟨rfl,
    fun reason => loadedShow_refused image, imageReason_length, fun sized other => ?crc, fun sound none => ?absent,
    fun d found => ⟨fun sound bad => ?range, fun sound ok bad => ?cross, fun sound ok ok' => ?valid, ?image⟩⟩⟩
  case ended =>
    obtain ⟨definitions, load, link⟩ := State.endLoading_settled quiet (imageReason s.store.image readFailed)
    exact ⟨definitions, load, by rw [State.settled_clock]; rfl, by rw [State.settled_clock]; rfl, link⟩
  case timeout =>
    obtain ⟨definitions, load, link⟩ := State.endLoading_settled quiet (some .readFailed)
    exact ⟨load, definitions, link⟩
  case crc => exact (imageReason_sized sized).trans (if_pos fun crc => other ⟨sized, crc⟩)
  case absent => rw [imageReason_sound sound, none]
  case range => rw [imageReason_sound sound, found]; exact if_pos (by rw [bad]; rfl)
  case cross =>
    rw [imageReason_sound sound, found]
    exact (if_neg (by rw [ok]; exact Bool.false_ne_true)).trans (if_pos (by rw [bad]; rfl))
  case valid =>
    rw [imageReason_sound sound, found]
    exact (if_neg (by rw [ok]; exact Bool.false_ne_true)).trans (if_neg (by rw [ok']; exact Bool.false_ne_true))
  case image =>
    have show_eq : loadedShow image none = { d with clips := d.clips.map loadedClip } := by
      unfold loadedShow
      rw [found]
    rw [show_eq]
    dsimp only
    refine ⟨rfl, fun c start length written h => ?_, fun c h => ?_⟩
    · rw [Table.get_map, h]; rfl
    · rw [Table.get_map, loadedClip_of_not_writing h]

end Sys2Proof.Machine
end


section
/-! The step, and the reset state. -/

namespace Sys2Proof.Machine

/-- Settles O1: the step takes the front command by definition. -/
theorem stepTakesFrontCommand : Obligations.StepTakesFrontCommand := by
  intro c rest s h
  unfold step
  rw [h]

/-- Settles O3: the reset state evaluates to each invariant. -/
theorem resetMeetsInvariants : Obligations.ResetMeetsInvariants :=
  ⟨Memory.wf_reset, rfl, rfl, rfl, Sys2Proof.Tests.reset_laws, Sys2Proof.Tests.reset_level_laws⟩

end Sys2Proof.Machine
end
